-- ==== Sys2Proof/Word.lean ====
section
/-! DEFINITION. The byte and word types of the core: a datum is a `u8`, an address or a register pair a `u16`
(00_scope.md R7, R10). -/

namespace Sys2Proof

/-- A `u8` (R10). -/
abbrev Byte := BitVec 8

/-- A `u16`: an address, PC, SP or a register pair (R10). -/
abbrev Word := BitVec 16

end Sys2Proof
end

