-- ==== Sys2Proof/Syntax.lean ====
section
/-! DEFINITION. The instructions: one constructor per row of opcode_table.json (255 base rows, 256 CB rows), and the
operand fields of 30_encoding.md R153 as types of names.
A constructor's name is its row's mnemonic: `AtHl` is `(HL)`, `AtHli` is `(HL+)`, `AtHld` is `(HL-)`, `N8`, `N16`,
`A8`, `A16` and `E8` are the immediates. An argument is the immediate the row's encoding gives (R154): `n`, `nn`
values, `a` an address or an I/O offset, `e` the raw displacement byte.
The rows with an immediate come first, because Lean's runtime bounds the index of a constructor with arguments. -/

namespace Sys2Proof

/-- The 3-bit operand field `r` (R153): a register, or `mem`, the byte at HL. -/
inductive R8 where
  | b | c | d | e | h | l | mem | a
deriving DecidableEq, Repr

/-- The 2-bit field `rr` of LD rr,n16, INC rr, DEC rr and ADD HL,rr (R153). -/
inductive R16 where
  | bc | de | hl | sp
deriving DecidableEq, Repr

/-- The 2-bit field `rr_stk` of PUSH and POP (R153). -/
inductive RStk where
  | bc | de | hl | af
deriving DecidableEq, Repr

/-- The condition field `cc` (R153, 44_control.md R380). -/
inductive Cond where
  | nz | z | nc | c
deriving DecidableEq, Repr

/-- The field `alu` (R153). -/
inductive AluOp where
  | add | adc | sub | sbc | and | xor | or | cp
deriving DecidableEq, Repr

/-- The field `rot` of the CB space (R153). -/
inductive RotOp where
  | rlc | rrc | rl | rr | sla | sra | swap | srl
deriving DecidableEq, Repr

/-- The eleven undefined base opcodes (R157), by their opcode byte. -/
inductive Undef where
  | uD3 | uDB | uDD | uE3 | uE4 | uEB | uEC | uED | uF4 | uFC | uFD
deriving DecidableEq, Repr

/-- The instructions (R155, R160). -/
inductive Instr where
  | ldBcN16 (nn : Word)
  | ldBN8 (n : Byte)
  | ldAtA16Sp (a : Word)
  | ldCN8 (n : Byte)
  | stop (n : Byte)
  | ldDeN16 (nn : Word)
  | ldDN8 (n : Byte)
  | jrE8 (e : Byte)
  | ldEN8 (n : Byte)
  | jrNzE8 (e : Byte)
  | ldHlN16 (nn : Word)
  | ldHN8 (n : Byte)
  | jrZE8 (e : Byte)
  | ldLN8 (n : Byte)
  | jrNcE8 (e : Byte)
  | ldSpN16 (nn : Word)
  | ldAtHlN8 (n : Byte)
  | jrCE8 (e : Byte)
  | ldAN8 (n : Byte)
  | jpNzA16 (a : Word)
  | jpA16 (a : Word)
  | callNzA16 (a : Word)
  | addAN8 (n : Byte)
  | jpZA16 (a : Word)
  | callZA16 (a : Word)
  | callA16 (a : Word)
  | adcAN8 (n : Byte)
  | jpNcA16 (a : Word)
  | callNcA16 (a : Word)
  | subN8 (n : Byte)
  | jpCA16 (a : Word)
  | callCA16 (a : Word)
  | sbcAN8 (n : Byte)
  | ldhAtA8A (a : Byte)
  | andN8 (n : Byte)
  | addSpE8 (e : Byte)
  | ldAtA16A (a : Word)
  | xorN8 (n : Byte)
  | ldhAAtA8 (a : Byte)
  | orN8 (n : Byte)
  | ldHlSpE8 (e : Byte)
  | ldAAtA16 (a : Word)
  | cpN8 (n : Byte)
  | nop | ldAtBcA | incBc | incB | decB | rlca | addHlBc | ldAAtBc | decBc | incC | decC | rrca
  | ldAtDeA | incDe | incD | decD | rla | addHlDe | ldAAtDe | decDe | incE | decE | rra | ldAtHliA
  | incHl | incH | decH | daa | addHlHl | ldAAtHli | decHl | incL | decL | cpl | ldAtHldA | incSp
  | incAtHl | decAtHl | scf | addHlSp | ldAAtHld | decSp | incA | decA | ccf
  | ldBB | ldBC | ldBD | ldBE | ldBH | ldBL | ldBAtHl | ldBA
  | ldCB | ldCC | ldCD | ldCE | ldCH | ldCL | ldCAtHl | ldCA
  | ldDB | ldDC | ldDD | ldDE | ldDH | ldDL | ldDAtHl | ldDA
  | ldEB | ldEC | ldED | ldEE | ldEH | ldEL | ldEAtHl | ldEA
  | ldHB | ldHC | ldHD | ldHE | ldHH | ldHL | ldHAtHl | ldHA
  | ldLB | ldLC | ldLD | ldLE | ldLH | ldLL | ldLAtHl | ldLA
  | ldAtHlB | ldAtHlC | ldAtHlD | ldAtHlE | ldAtHlH | ldAtHlL | halt | ldAtHlA
  | ldAB | ldAC | ldAD | ldAE | ldAH | ldAL | ldAAtHl | ldAA
  | addAB | addAC | addAD | addAE | addAH | addAL | addAAtHl | addAA
  | adcAB | adcAC | adcAD | adcAE | adcAH | adcAL | adcAAtHl | adcAA
  | subB | subC | subD | subE | subH | subL | subAtHl | subA
  | sbcAB | sbcAC | sbcAD | sbcAE | sbcAH | sbcAL | sbcAAtHl | sbcAA
  | andB | andC | andD | andE | andH | andL | andAtHl | andA
  | xorB | xorC | xorD | xorE | xorH | xorL | xorAtHl | xorA
  | orB | orC | orD | orE | orH | orL | orAtHl | orA
  | cpB | cpC | cpD | cpE | cpH | cpL | cpAtHl | cpA
  | retNz | popBc | pushBc | rst00
  | retZ | ret | rst08
  | retNc | popDe | undefinedD3 | pushDe | rst10
  | retC | reti | undefinedDB | undefinedDD | rst18 | popHl | ldAtCA | undefinedE3 | undefinedE4
  | pushHl | rst20 | jpHl | undefinedEB | undefinedEC | undefinedED | rst28 | popAf | ldAAtC | di
  | undefinedF4 | pushAf | rst30 | ldSpHl | ei | undefinedFC | undefinedFD | rst38
  | rlcB | rlcC | rlcD | rlcE | rlcH | rlcL | rlcAtHl | rlcA
  | rrcB | rrcC | rrcD | rrcE | rrcH | rrcL | rrcAtHl | rrcA
  | rlB | rlC | rlD | rlE | rlH | rlL | rlAtHl | rlA
  | rrB | rrC | rrD | rrE | rrH | rrL | rrAtHl | rrA
  | slaB | slaC | slaD | slaE | slaH | slaL | slaAtHl | slaA
  | sraB | sraC | sraD | sraE | sraH | sraL | sraAtHl | sraA
  | swapB | swapC | swapD | swapE | swapH | swapL | swapAtHl | swapA
  | srlB | srlC | srlD | srlE | srlH | srlL | srlAtHl | srlA
  | bit0B | bit0C | bit0D | bit0E | bit0H | bit0L | bit0AtHl | bit0A
  | bit1B | bit1C | bit1D | bit1E | bit1H | bit1L | bit1AtHl | bit1A
  | bit2B | bit2C | bit2D | bit2E | bit2H | bit2L | bit2AtHl | bit2A
  | bit3B | bit3C | bit3D | bit3E | bit3H | bit3L | bit3AtHl | bit3A
  | bit4B | bit4C | bit4D | bit4E | bit4H | bit4L | bit4AtHl | bit4A
  | bit5B | bit5C | bit5D | bit5E | bit5H | bit5L | bit5AtHl | bit5A
  | bit6B | bit6C | bit6D | bit6E | bit6H | bit6L | bit6AtHl | bit6A
  | bit7B | bit7C | bit7D | bit7E | bit7H | bit7L | bit7AtHl | bit7A
  | res0B | res0C | res0D | res0E | res0H | res0L | res0AtHl | res0A
  | res1B | res1C | res1D | res1E | res1H | res1L | res1AtHl | res1A
  | res2B | res2C | res2D | res2E | res2H | res2L | res2AtHl | res2A
  | res3B | res3C | res3D | res3E | res3H | res3L | res3AtHl | res3A
  | res4B | res4C | res4D | res4E | res4H | res4L | res4AtHl | res4A
  | res5B | res5C | res5D | res5E | res5H | res5L | res5AtHl | res5A
  | res6B | res6C | res6D | res6E | res6H | res6L | res6AtHl | res6A
  | res7B | res7C | res7D | res7E | res7H | res7L | res7AtHl | res7A
  | set0B | set0C | set0D | set0E | set0H | set0L | set0AtHl | set0A
  | set1B | set1C | set1D | set1E | set1H | set1L | set1AtHl | set1A
  | set2B | set2C | set2D | set2E | set2H | set2L | set2AtHl | set2A
  | set3B | set3C | set3D | set3E | set3H | set3L | set3AtHl | set3A
  | set4B | set4C | set4D | set4E | set4H | set4L | set4AtHl | set4A
  | set5B | set5C | set5D | set5E | set5H | set5L | set5AtHl | set5A
  | set6B | set6C | set6D | set6E | set6H | set6L | set6AtHl | set6A
  | set7B | set7C | set7D | set7E | set7H | set7L | set7AtHl | set7A
deriving DecidableEq, Repr

end Sys2Proof
end

