-- ==== Sys2Proof/Decode.lean ====
section
/-! DEFINITION. Decoding (30_encoding.md R150 to R161), the opcode table (R155), and the encoder.
`decode3` is the decoder: total on every opcode byte and the two bytes after it (R160). `decodeBytes` decodes a list of
bytes and rejects by name a list that is too short. `encode` is written separately, from the `encoding` column of
opcode_table.json. -/

namespace Sys2Proof

/-! ## Bit fields and byte composition -/

/-- `hi ++ lo` of two bytes (00_scope.md R9). -/
def cat (hi lo : Byte) : Word := hi ++ lo

/-- `v[15:8]`. -/
def hiByte (v : Word) : Byte := v.extractLsb' 8 8

/-- `v[7:0]`. -/
def loByte (v : Word) : Byte := v.extractLsb' 0 8

/-- `sext_16(e)` (00_scope.md R10). -/
def sext16 (e : Byte) : Word := e.signExtend 16

/-- `zext_16(v)` (00_scope.md R10). -/
def zext16 (v : Byte) : Word := v.setWidth 16

/-- `x = op[7:6]` (R151). -/
def fieldX (op : Byte) : BitVec 2 := op.extractLsb' 6 2

/-- `y = op[5:3]` (R151). -/
def fieldY (op : Byte) : BitVec 3 := op.extractLsb' 3 3

/-- `z = op[2:0]` (R151). -/
def fieldZ (op : Byte) : BitVec 3 := op.extractLsb' 0 3

/-- `p = op[5:4]` (R151). -/
def fieldP (op : Byte) : BitVec 2 := op.extractLsb' 4 2

/-- `q = op[3]` (R151). -/
def fieldQ (op : Byte) : BitVec 1 := op.extractLsb' 3 1

/-- The row of the opcode map: the high nibble. -/
def hiNibble (op : Byte) : BitVec 4 := op.extractLsb' 4 4

/-- The column of the opcode map: the low nibble. -/
def loNibble (op : Byte) : BitVec 4 := op.extractLsb' 0 4

/-- One of four by a 2-bit index. -/
def sel4 {α : Type} (i : BitVec 2) (x0 x1 x2 x3 : α) : α :=
  cond (i.getLsbD 1) (cond (i.getLsbD 0) x3 x2) (cond (i.getLsbD 0) x1 x0)

/-- One of eight by a 3-bit index. -/
def sel8 {α : Type} (i : BitVec 3) (x0 x1 x2 x3 x4 x5 x6 x7 : α) : α :=
  cond (i.getLsbD 2) (sel4 (i.extractLsb' 0 2) x4 x5 x6 x7) (sel4 (i.extractLsb' 0 2) x0 x1 x2 x3)

/-- One of sixteen by a 4-bit index. -/
def sel16 {α : Type} (i : BitVec 4) (x0 x1 x2 x3 x4 x5 x6 x7 x8 x9 xA xB xC xD xE xF : α) : α :=
  cond (i.getLsbD 3) (sel8 (i.extractLsb' 0 3) x8 x9 xA xB xC xD xE xF)
    (sel8 (i.extractLsb' 0 3) x0 x1 x2 x3 x4 x5 x6 x7)

/-! ## Operand codes (R153) -/

def R8.ofCode (i : BitVec 3) : R8 := sel8 i .b .c .d .e .h .l .mem .a

def R8.code : R8 → BitVec 3
  | .b => 0 | .c => 1 | .d => 2 | .e => 3 | .h => 4 | .l => 5 | .mem => 6 | .a => 7

def R16.ofCode (i : BitVec 2) : R16 := sel4 i .bc .de .hl .sp

def R16.code : R16 → BitVec 2
  | .bc => 0 | .de => 1 | .hl => 2 | .sp => 3

def RStk.ofCode (i : BitVec 2) : RStk := sel4 i .bc .de .hl .af

def RStk.code : RStk → BitVec 2
  | .bc => 0 | .de => 1 | .hl => 2 | .af => 3

def Cond.ofCode (i : BitVec 2) : Cond := sel4 i .nz .z .nc .c

def Cond.code : Cond → BitVec 2
  | .nz => 0 | .z => 1 | .nc => 2 | .c => 3

def AluOp.ofCode (i : BitVec 3) : AluOp := sel8 i .add .adc .sub .sbc .and .xor .or .cp

def AluOp.code : AluOp → BitVec 3
  | .add => 0 | .adc => 1 | .sub => 2 | .sbc => 3 | .and => 4 | .xor => 5 | .or => 6 | .cp => 7

def RotOp.ofCode (i : BitVec 3) : RotOp := sel8 i .rlc .rrc .rl .rr .sla .sra .swap .srl

def RotOp.code : RotOp → BitVec 3
  | .rlc => 0 | .rrc => 1 | .rl => 2 | .rr => 3 | .sla => 4 | .sra => 5 | .swap => 6 | .srl => 7

/-- The opcode byte of an undefined slot (R157). -/
def Undef.opcode : Undef → Byte
  | .uD3 => 0xD3 | .uDB => 0xDB | .uDD => 0xDD | .uE3 => 0xE3 | .uE4 => 0xE4 | .uEB => 0xEB
  | .uEC => 0xEC | .uED => 0xED | .uF4 => 0xF4 | .uFC => 0xFC | .uFD => 0xFD

/-- One of eight by an operand. -/
def R8.sel {α : Type} (z : R8) (x0 x1 x2 x3 x4 x5 x6 x7 : α) : α :=
  match z with
  | .b => x0 | .c => x1 | .d => x2 | .e => x3 | .h => x4 | .l => x5 | .mem => x6 | .a => x7

/-! ## Families: the instruction of a set of operand fields -/

/-- The block 0x40-0x7F (R202, R203, R204): LD between two `r` operands, and HALT where both are `(HL)` (R161). -/
def Instr.ofLd (y z : R8) : Instr :=
  match y with
  | .b => z.sel .ldBB .ldBC .ldBD .ldBE .ldBH .ldBL .ldBAtHl .ldBA
  | .c => z.sel .ldCB .ldCC .ldCD .ldCE .ldCH .ldCL .ldCAtHl .ldCA
  | .d => z.sel .ldDB .ldDC .ldDD .ldDE .ldDH .ldDL .ldDAtHl .ldDA
  | .e => z.sel .ldEB .ldEC .ldED .ldEE .ldEH .ldEL .ldEAtHl .ldEA
  | .h => z.sel .ldHB .ldHC .ldHD .ldHE .ldHH .ldHL .ldHAtHl .ldHA
  | .l => z.sel .ldLB .ldLC .ldLD .ldLE .ldLH .ldLL .ldLAtHl .ldLA
  | .mem => z.sel .ldAtHlB .ldAtHlC .ldAtHlD .ldAtHlE .ldAtHlH .ldAtHlL .halt .ldAtHlA
  | .a => z.sel .ldAB .ldAC .ldAD .ldAE .ldAH .ldAL .ldAAtHl .ldAA

/-- The block 0x80-0xBF: an ALU operation on A and an `r` operand. -/
def Instr.ofAlu (op : AluOp) (z : R8) : Instr :=
  match op with
  | .add => z.sel .addAB .addAC .addAD .addAE .addAH .addAL .addAAtHl .addAA
  | .adc => z.sel .adcAB .adcAC .adcAD .adcAE .adcAH .adcAL .adcAAtHl .adcAA
  | .sub => z.sel .subB .subC .subD .subE .subH .subL .subAtHl .subA
  | .sbc => z.sel .sbcAB .sbcAC .sbcAD .sbcAE .sbcAH .sbcAL .sbcAAtHl .sbcAA
  | .and => z.sel .andB .andC .andD .andE .andH .andL .andAtHl .andA
  | .xor => z.sel .xorB .xorC .xorD .xorE .xorH .xorL .xorAtHl .xorA
  | .or => z.sel .orB .orC .orD .orE .orH .orL .orAtHl .orA
  | .cp => z.sel .cpB .cpC .cpD .cpE .cpH .cpL .cpAtHl .cpA

/-- 0xC6 + 8 y: an ALU operation on A and `n8`. -/
def Instr.ofAluImm (op : AluOp) (n : Byte) : Instr :=
  match op with
  | .add => .addAN8 n
  | .adc => .adcAN8 n
  | .sub => .subN8 n
  | .sbc => .sbcAN8 n
  | .and => .andN8 n
  | .xor => .xorN8 n
  | .or => .orN8 n
  | .cp => .cpN8 n

/-- 0x06 + 8 y: LD r,n8 and LD (HL),n8 (R205, R206). -/
def Instr.ofLdImm (y : R8) (n : Byte) : Instr :=
  match y with
  | .b => .ldBN8 n
  | .c => .ldCN8 n
  | .d => .ldDN8 n
  | .e => .ldEN8 n
  | .h => .ldHN8 n
  | .l => .ldLN8 n
  | .mem => .ldAtHlN8 n
  | .a => .ldAN8 n

/-- 0x04 + 8 y: INC r and INC (HL) (R276, R277). -/
def Instr.ofInc (y : R8) : Instr :=
  match y with
  | .b => .incB
  | .c => .incC
  | .d => .incD
  | .e => .incE
  | .h => .incH
  | .l => .incL
  | .mem => .incAtHl
  | .a => .incA

/-- 0x05 + 8 y: DEC r and DEC (HL) (R278, R279). -/
def Instr.ofDec (y : R8) : Instr :=
  match y with
  | .b => .decB
  | .c => .decC
  | .d => .decD
  | .e => .decE
  | .h => .decH
  | .l => .decL
  | .mem => .decAtHl
  | .a => .decA

/-- LD rr,n16 (R221). -/
def Instr.ofLdPair (p : R16) (nn : Word) : Instr :=
  match p with
  | .bc => .ldBcN16 nn
  | .de => .ldDeN16 nn
  | .hl => .ldHlN16 nn
  | .sp => .ldSpN16 nn

/-- INC rr (R302). -/
def Instr.ofIncPair (p : R16) : Instr :=
  match p with
  | .bc => .incBc
  | .de => .incDe
  | .hl => .incHl
  | .sp => .incSp

/-- DEC rr (R303). -/
def Instr.ofDecPair (p : R16) : Instr :=
  match p with
  | .bc => .decBc
  | .de => .decDe
  | .hl => .decHl
  | .sp => .decSp

/-- ADD HL,rr (R301). -/
def Instr.ofAddHl (p : R16) : Instr :=
  match p with
  | .bc => .addHlBc
  | .de => .addHlDe
  | .hl => .addHlHl
  | .sp => .addHlSp

/-- PUSH rr (R224). -/
def Instr.ofPush (p : RStk) : Instr :=
  match p with
  | .bc => .pushBc
  | .de => .pushDe
  | .hl => .pushHl
  | .af => .pushAf

/-- POP rr and POP AF (R225, R226). -/
def Instr.ofPop (p : RStk) : Instr :=
  match p with
  | .bc => .popBc
  | .de => .popDe
  | .hl => .popHl
  | .af => .popAf

/-- JP cc,a16 (R382). -/
def Instr.ofJp (cc : Cond) (a : Word) : Instr :=
  match cc with
  | .nz => .jpNzA16 a
  | .z => .jpZA16 a
  | .nc => .jpNcA16 a
  | .c => .jpCA16 a

/-- JR cc,e8 (R385). -/
def Instr.ofJr (cc : Cond) (e : Byte) : Instr :=
  match cc with
  | .nz => .jrNzE8 e
  | .z => .jrZE8 e
  | .nc => .jrNcE8 e
  | .c => .jrCE8 e

/-- CALL cc,a16 (R387). -/
def Instr.ofCall (cc : Cond) (a : Word) : Instr :=
  match cc with
  | .nz => .callNzA16 a
  | .z => .callZA16 a
  | .nc => .callNcA16 a
  | .c => .callCA16 a

/-- RET cc (R389). -/
def Instr.ofRet (cc : Cond) : Instr :=
  match cc with
  | .nz => .retNz
  | .z => .retZ
  | .nc => .retNc
  | .c => .retC

/-- The undefined slots (R157, R425). -/
def Instr.ofUndef (u : Undef) : Instr :=
  match u with
  | .uD3 => .undefinedD3
  | .uDB => .undefinedDB
  | .uDD => .undefinedDD
  | .uE3 => .undefinedE3
  | .uE4 => .undefinedE4
  | .uEB => .undefinedEB
  | .uEC => .undefinedEC
  | .uED => .undefinedED
  | .uF4 => .undefinedF4
  | .uFC => .undefinedFC
  | .uFD => .undefinedFD

/-- RST y * 8 (R391). -/
def Instr.ofRst (y : BitVec 3) : Instr :=
  sel8 y .rst00 .rst08 .rst10 .rst18 .rst20 .rst28 .rst30 .rst38

/-- The accumulator rotates 0x07, 0x0F, 0x17, 0x1F, by the first four of `rot` (R330 to R333). -/
def Instr.ofRotA (i : BitVec 2) : Instr :=
  sel4 i .rlca .rrca .rla .rra

/-- The CB group x = 0: a rotate or shift of an `r` operand (R335 to R350). -/
def Instr.ofRot (op : RotOp) (z : R8) : Instr :=
  match op with
  | .rlc => z.sel .rlcB .rlcC .rlcD .rlcE .rlcH .rlcL .rlcAtHl .rlcA
  | .rrc => z.sel .rrcB .rrcC .rrcD .rrcE .rrcH .rrcL .rrcAtHl .rrcA
  | .rl => z.sel .rlB .rlC .rlD .rlE .rlH .rlL .rlAtHl .rlA
  | .rr => z.sel .rrB .rrC .rrD .rrE .rrH .rrL .rrAtHl .rrA
  | .sla => z.sel .slaB .slaC .slaD .slaE .slaH .slaL .slaAtHl .slaA
  | .sra => z.sel .sraB .sraC .sraD .sraE .sraH .sraL .sraAtHl .sraA
  | .swap => z.sel .swapB .swapC .swapD .swapE .swapH .swapL .swapAtHl .swapA
  | .srl => z.sel .srlB .srlC .srlD .srlE .srlH .srlL .srlAtHl .srlA

/-- The CB group of BIT b on an `r` operand (R351, R352). -/
def Instr.ofBit (b : BitVec 3) (z : R8) : Instr :=
  match z with
  | .b => sel8 b .bit0B .bit1B .bit2B .bit3B .bit4B .bit5B .bit6B .bit7B
  | .c => sel8 b .bit0C .bit1C .bit2C .bit3C .bit4C .bit5C .bit6C .bit7C
  | .d => sel8 b .bit0D .bit1D .bit2D .bit3D .bit4D .bit5D .bit6D .bit7D
  | .e => sel8 b .bit0E .bit1E .bit2E .bit3E .bit4E .bit5E .bit6E .bit7E
  | .h => sel8 b .bit0H .bit1H .bit2H .bit3H .bit4H .bit5H .bit6H .bit7H
  | .l => sel8 b .bit0L .bit1L .bit2L .bit3L .bit4L .bit5L .bit6L .bit7L
  | .mem => sel8 b .bit0AtHl .bit1AtHl .bit2AtHl .bit3AtHl .bit4AtHl .bit5AtHl .bit6AtHl .bit7AtHl
  | .a => sel8 b .bit0A .bit1A .bit2A .bit3A .bit4A .bit5A .bit6A .bit7A

/-- The CB group of RES b on an `r` operand (R353, R354). -/
def Instr.ofRes (b : BitVec 3) (z : R8) : Instr :=
  match z with
  | .b => sel8 b .res0B .res1B .res2B .res3B .res4B .res5B .res6B .res7B
  | .c => sel8 b .res0C .res1C .res2C .res3C .res4C .res5C .res6C .res7C
  | .d => sel8 b .res0D .res1D .res2D .res3D .res4D .res5D .res6D .res7D
  | .e => sel8 b .res0E .res1E .res2E .res3E .res4E .res5E .res6E .res7E
  | .h => sel8 b .res0H .res1H .res2H .res3H .res4H .res5H .res6H .res7H
  | .l => sel8 b .res0L .res1L .res2L .res3L .res4L .res5L .res6L .res7L
  | .mem => sel8 b .res0AtHl .res1AtHl .res2AtHl .res3AtHl .res4AtHl .res5AtHl .res6AtHl .res7AtHl
  | .a => sel8 b .res0A .res1A .res2A .res3A .res4A .res5A .res6A .res7A

/-- The CB group of SET b on an `r` operand (R355, R356). -/
def Instr.ofSet (b : BitVec 3) (z : R8) : Instr :=
  match z with
  | .b => sel8 b .set0B .set1B .set2B .set3B .set4B .set5B .set6B .set7B
  | .c => sel8 b .set0C .set1C .set2C .set3C .set4C .set5C .set6C .set7C
  | .d => sel8 b .set0D .set1D .set2D .set3D .set4D .set5D .set6D .set7D
  | .e => sel8 b .set0E .set1E .set2E .set3E .set4E .set5E .set6E .set7E
  | .h => sel8 b .set0H .set1H .set2H .set3H .set4H .set5H .set6H .set7H
  | .l => sel8 b .set0L .set1L .set2L .set3L .set4L .set5L .set6L .set7L
  | .mem => sel8 b .set0AtHl .set1AtHl .set2AtHl .set3AtHl .set4AtHl .set5AtHl .set6AtHl .set7AtHl
  | .a => sel8 b .set0A .set1A .set2A .set3A .set4A .set5A .set6A .set7A

/-! ## The decoder (R156, R160) -/

/-- The CB table (R156), decoded by the fields x, y, z of the suffix (R151). -/
def decodeCb (op2 : Byte) : Instr :=
  sel4 (fieldX op2)
    (.ofRot (RotOp.ofCode (fieldY op2)) (R8.ofCode (fieldZ op2)))
    (.ofBit (fieldY op2) (R8.ofCode (fieldZ op2)))
    (.ofRes (fieldY op2) (R8.ofCode (fieldZ op2)))
    (.ofSet (fieldY op2) (R8.ofCode (fieldZ op2)))

/-- Row 0x of the base map of 30_encoding.md section 4, by its column. -/
def decodeRow0 (col : BitVec 4) (n8 : Byte) (n16 : Word) : Instr :=
  sel16 col
    .nop (.ldBcN16 n16) .ldAtBcA .incBc .incB .decB (.ldBN8 n8) .rlca
    (.ldAtA16Sp n16) .addHlBc .ldAAtBc .decBc .incC .decC (.ldCN8 n8) .rrca

/-- Row 1x of the base map of 30_encoding.md section 4, by its column. -/
def decodeRow1 (col : BitVec 4) (n8 : Byte) (n16 : Word) : Instr :=
  sel16 col
    (.stop n8) (.ldDeN16 n16) .ldAtDeA .incDe .incD .decD (.ldDN8 n8) .rla
    (.jrE8 n8) .addHlDe .ldAAtDe .decDe .incE .decE (.ldEN8 n8) .rra

/-- Row 2x of the base map of 30_encoding.md section 4, by its column. -/
def decodeRow2 (col : BitVec 4) (n8 : Byte) (n16 : Word) : Instr :=
  sel16 col
    (.jrNzE8 n8) (.ldHlN16 n16) .ldAtHliA .incHl .incH .decH (.ldHN8 n8) .daa
    (.jrZE8 n8) .addHlHl .ldAAtHli .decHl .incL .decL (.ldLN8 n8) .cpl

/-- Row 3x of the base map of 30_encoding.md section 4, by its column. -/
def decodeRow3 (col : BitVec 4) (n8 : Byte) (n16 : Word) : Instr :=
  sel16 col
    (.jrNcE8 n8) (.ldSpN16 n16) .ldAtHldA .incSp .incAtHl .decAtHl (.ldAtHlN8 n8) .scf
    (.jrCE8 n8) .addHlSp .ldAAtHld .decSp .incA .decA (.ldAN8 n8) .ccf

/-- Row Cx of the base map of 30_encoding.md section 4, by its column. -/
def decodeRowC (col : BitVec 4) (n8 : Byte) (n16 : Word) : Instr :=
  sel16 col
    .retNz .popBc (.jpNzA16 n16) (.jpA16 n16) (.callNzA16 n16) .pushBc (.addAN8 n8) .rst00
    .retZ .ret (.jpZA16 n16) (decodeCb n8) (.callZA16 n16) (.callA16 n16) (.adcAN8 n8) .rst08

/-- Row Dx of the base map of 30_encoding.md section 4, by its column. -/
def decodeRowD (col : BitVec 4) (n8 : Byte) (n16 : Word) : Instr :=
  sel16 col
    .retNc .popDe (.jpNcA16 n16) .undefinedD3 (.callNcA16 n16) .pushDe (.subN8 n8) .rst10
    .retC .reti (.jpCA16 n16) .undefinedDB (.callCA16 n16) .undefinedDD (.sbcAN8 n8) .rst18

/-- Row Ex of the base map of 30_encoding.md section 4, by its column. -/
def decodeRowE (col : BitVec 4) (n8 : Byte) (n16 : Word) : Instr :=
  sel16 col
    (.ldhAtA8A n8) .popHl .ldAtCA .undefinedE3 .undefinedE4 .pushHl (.andN8 n8) .rst20
    (.addSpE8 n8) .jpHl (.ldAtA16A n16) .undefinedEB .undefinedEC .undefinedED (.xorN8 n8) .rst28

/-- Row Fx of the base map of 30_encoding.md section 4, by its column. -/
def decodeRowF (col : BitVec 4) (n8 : Byte) (n16 : Word) : Instr :=
  sel16 col
    (.ldhAAtA8 n8) .popAf .ldAAtC .di .undefinedF4 .pushAf (.orN8 n8) .rst30
    (.ldHlSpE8 n8) .ldSpHl (.ldAAtA16 n16) .ei .undefinedFC .undefinedFD (.cpN8 n8) .rst38

/-- Any base opcode with the byte `n8` after it and the value `n16` of the two bytes after it (R154, R156).
The blocks 0x40-0x7F and 0x80-0xBF are decoded by their fields (R151), the rest by exact value. -/
def decodeBase (op n8 : Byte) (n16 : Word) : Instr :=
  sel4 (fieldX op)
    (sel4 (fieldP op) (decodeRow0 (loNibble op) n8 n16) (decodeRow1 (loNibble op) n8 n16)
      (decodeRow2 (loNibble op) n8 n16) (decodeRow3 (loNibble op) n8 n16))
    (.ofLd (R8.ofCode (fieldY op)) (R8.ofCode (fieldZ op)))
    (.ofAlu (AluOp.ofCode (fieldY op)) (R8.ofCode (fieldZ op)))
    (sel4 (fieldP op) (decodeRowC (loNibble op) n8 n16) (decodeRowD (loNibble op) n8 n16)
      (decodeRowE (loNibble op) n8 n16) (decodeRowF (loNibble op) n8 n16))

/-- The instruction whose opcode byte is `b0` and whose next bytes are `b1` and `b2`; the bytes beyond its length do not
matter. An `n16` has its low byte first (R154). -/
def decode3 (b0 b1 b2 : Byte) : Instr := decodeBase b0 b1 (cat b2 b1)

/-! ## The opcode table (R155) -/

/-- What a row's flag string says of one flag (00_scope.md R13). -/
inductive FlagEffect where
  | zero
  | one
  | keep
  | computed
deriving DecidableEq, Repr

/-- A row's flag-effect string, in the order Z N H C (R13). -/
structure FlagEffects where
  z : FlagEffect
  n : FlagEffect
  h : FlagEffect
  c : FlagEffect
deriving DecidableEq, Repr

/-- A row of the opcode table (R155): the printed mnemonic, the total length with the prefix, the base cost, the cost of
a taken conditional transfer, and the flag string. -/
structure Descriptor where
  mnemonic : String
  length : Nat
  cycles : Nat
  cyclesTaken : Option Nat
  flags : FlagEffects
deriving DecidableEq, Repr

namespace FlagEffects

/-- `----` -/
def none : FlagEffects := ⟨.keep, .keep, .keep, .keep⟩
/-- `-001` -/
def f_001 : FlagEffects := ⟨.keep, .zero, .zero, .one⟩
/-- `-00C` -/
def f_00c : FlagEffects := ⟨.keep, .zero, .zero, .computed⟩
/-- `-0HC` -/
def f_0hc : FlagEffects := ⟨.keep, .zero, .computed, .computed⟩
/-- `-11-` -/
def f_11_ : FlagEffects := ⟨.keep, .one, .one, .keep⟩
/-- `000C` -/
def f000c : FlagEffects := ⟨.zero, .zero, .zero, .computed⟩
/-- `00HC` -/
def f00hc : FlagEffects := ⟨.zero, .zero, .computed, .computed⟩
/-- `Z-0C` -/
def fz_0c : FlagEffects := ⟨.computed, .keep, .zero, .computed⟩
/-- `Z000` -/
def fz000 : FlagEffects := ⟨.computed, .zero, .zero, .zero⟩
/-- `Z00C` -/
def fz00c : FlagEffects := ⟨.computed, .zero, .zero, .computed⟩
/-- `Z01-` -/
def fz01_ : FlagEffects := ⟨.computed, .zero, .one, .keep⟩
/-- `Z010` -/
def fz010 : FlagEffects := ⟨.computed, .zero, .one, .zero⟩
/-- `Z0H-` -/
def fz0h_ : FlagEffects := ⟨.computed, .zero, .computed, .keep⟩
/-- `Z0HC` -/
def fz0hc : FlagEffects := ⟨.computed, .zero, .computed, .computed⟩
/-- `Z1H-` -/
def fz1h_ : FlagEffects := ⟨.computed, .one, .computed, .keep⟩
/-- `Z1HC` -/
def fz1hc : FlagEffects := ⟨.computed, .one, .computed, .computed⟩
/-- `ZNHC` -/
def fznhc : FlagEffects := ⟨.computed, .computed, .computed, .computed⟩

end FlagEffects

/-- A row without a taken count. -/
def row (mnemonic : String) (length cycles : Nat) (flags : FlagEffects) : Descriptor :=
  ⟨mnemonic, length, cycles, none, flags⟩

/-- A conditional transfer's row: it changes no flag. -/
def rowTaken (mnemonic : String) (length cycles taken : Nat) : Descriptor :=
  ⟨mnemonic, length, cycles, some taken, FlagEffects.none⟩

open FlagEffects in
/-- The opcode table, from the columns `mnemonic` (the spec's spelling, R162), `length`, `cycles`, `cycles_taken` and
`flags_ZNHC` of opcode_table.json. -/
def Instr.descriptor (i : Instr) : Descriptor :=
  match i with
  | .nop => row "NOP" 1 4 none
  | .ldBcN16 _ => row "LD BC,n16" 3 12 none
  | .ldAtBcA => row "LD (BC),A" 1 8 none
  | .incBc => row "INC BC" 1 8 none
  | .incB => row "INC B" 1 4 fz0h_
  | .decB => row "DEC B" 1 4 fz1h_
  | .ldBN8 _ => row "LD B,n8" 2 8 none
  | .rlca => row "RLCA" 1 4 f000c
  | .ldAtA16Sp _ => row "LD (a16),SP" 3 20 none
  | .addHlBc => row "ADD HL,BC" 1 8 f_0hc
  | .ldAAtBc => row "LD A,(BC)" 1 8 none
  | .decBc => row "DEC BC" 1 8 none
  | .incC => row "INC C" 1 4 fz0h_
  | .decC => row "DEC C" 1 4 fz1h_
  | .ldCN8 _ => row "LD C,n8" 2 8 none
  | .rrca => row "RRCA" 1 4 f000c
  | .stop _ => row "STOP" 2 4 none
  | .ldDeN16 _ => row "LD DE,n16" 3 12 none
  | .ldAtDeA => row "LD (DE),A" 1 8 none
  | .incDe => row "INC DE" 1 8 none
  | .incD => row "INC D" 1 4 fz0h_
  | .decD => row "DEC D" 1 4 fz1h_
  | .ldDN8 _ => row "LD D,n8" 2 8 none
  | .rla => row "RLA" 1 4 f000c
  | .jrE8 _ => row "JR e8" 2 12 none
  | .addHlDe => row "ADD HL,DE" 1 8 f_0hc
  | .ldAAtDe => row "LD A,(DE)" 1 8 none
  | .decDe => row "DEC DE" 1 8 none
  | .incE => row "INC E" 1 4 fz0h_
  | .decE => row "DEC E" 1 4 fz1h_
  | .ldEN8 _ => row "LD E,n8" 2 8 none
  | .rra => row "RRA" 1 4 f000c
  | .jrNzE8 _ => rowTaken "JR NZ,e8" 2 8 12
  | .ldHlN16 _ => row "LD HL,n16" 3 12 none
  | .ldAtHliA => row "LD (HL+),A" 1 8 none
  | .incHl => row "INC HL" 1 8 none
  | .incH => row "INC H" 1 4 fz0h_
  | .decH => row "DEC H" 1 4 fz1h_
  | .ldHN8 _ => row "LD H,n8" 2 8 none
  | .daa => row "DAA" 1 4 fz_0c
  | .jrZE8 _ => rowTaken "JR Z,e8" 2 8 12
  | .addHlHl => row "ADD HL,HL" 1 8 f_0hc
  | .ldAAtHli => row "LD A,(HL+)" 1 8 none
  | .decHl => row "DEC HL" 1 8 none
  | .incL => row "INC L" 1 4 fz0h_
  | .decL => row "DEC L" 1 4 fz1h_
  | .ldLN8 _ => row "LD L,n8" 2 8 none
  | .cpl => row "CPL" 1 4 f_11_
  | .jrNcE8 _ => rowTaken "JR NC,e8" 2 8 12
  | .ldSpN16 _ => row "LD SP,n16" 3 12 none
  | .ldAtHldA => row "LD (HL-),A" 1 8 none
  | .incSp => row "INC SP" 1 8 none
  | .incAtHl => row "INC (HL)" 1 12 fz0h_
  | .decAtHl => row "DEC (HL)" 1 12 fz1h_
  | .ldAtHlN8 _ => row "LD (HL),n8" 2 12 none
  | .scf => row "SCF" 1 4 f_001
  | .jrCE8 _ => rowTaken "JR C,e8" 2 8 12
  | .addHlSp => row "ADD HL,SP" 1 8 f_0hc
  | .ldAAtHld => row "LD A,(HL-)" 1 8 none
  | .decSp => row "DEC SP" 1 8 none
  | .incA => row "INC A" 1 4 fz0h_
  | .decA => row "DEC A" 1 4 fz1h_
  | .ldAN8 _ => row "LD A,n8" 2 8 none
  | .ccf => row "CCF" 1 4 f_00c
  | .ldBB => row "LD B,B" 1 4 none
  | .ldBC => row "LD B,C" 1 4 none
  | .ldBD => row "LD B,D" 1 4 none
  | .ldBE => row "LD B,E" 1 4 none
  | .ldBH => row "LD B,H" 1 4 none
  | .ldBL => row "LD B,L" 1 4 none
  | .ldBAtHl => row "LD B,(HL)" 1 8 none
  | .ldBA => row "LD B,A" 1 4 none
  | .ldCB => row "LD C,B" 1 4 none
  | .ldCC => row "LD C,C" 1 4 none
  | .ldCD => row "LD C,D" 1 4 none
  | .ldCE => row "LD C,E" 1 4 none
  | .ldCH => row "LD C,H" 1 4 none
  | .ldCL => row "LD C,L" 1 4 none
  | .ldCAtHl => row "LD C,(HL)" 1 8 none
  | .ldCA => row "LD C,A" 1 4 none
  | .ldDB => row "LD D,B" 1 4 none
  | .ldDC => row "LD D,C" 1 4 none
  | .ldDD => row "LD D,D" 1 4 none
  | .ldDE => row "LD D,E" 1 4 none
  | .ldDH => row "LD D,H" 1 4 none
  | .ldDL => row "LD D,L" 1 4 none
  | .ldDAtHl => row "LD D,(HL)" 1 8 none
  | .ldDA => row "LD D,A" 1 4 none
  | .ldEB => row "LD E,B" 1 4 none
  | .ldEC => row "LD E,C" 1 4 none
  | .ldED => row "LD E,D" 1 4 none
  | .ldEE => row "LD E,E" 1 4 none
  | .ldEH => row "LD E,H" 1 4 none
  | .ldEL => row "LD E,L" 1 4 none
  | .ldEAtHl => row "LD E,(HL)" 1 8 none
  | .ldEA => row "LD E,A" 1 4 none
  | .ldHB => row "LD H,B" 1 4 none
  | .ldHC => row "LD H,C" 1 4 none
  | .ldHD => row "LD H,D" 1 4 none
  | .ldHE => row "LD H,E" 1 4 none
  | .ldHH => row "LD H,H" 1 4 none
  | .ldHL => row "LD H,L" 1 4 none
  | .ldHAtHl => row "LD H,(HL)" 1 8 none
  | .ldHA => row "LD H,A" 1 4 none
  | .ldLB => row "LD L,B" 1 4 none
  | .ldLC => row "LD L,C" 1 4 none
  | .ldLD => row "LD L,D" 1 4 none
  | .ldLE => row "LD L,E" 1 4 none
  | .ldLH => row "LD L,H" 1 4 none
  | .ldLL => row "LD L,L" 1 4 none
  | .ldLAtHl => row "LD L,(HL)" 1 8 none
  | .ldLA => row "LD L,A" 1 4 none
  | .ldAtHlB => row "LD (HL),B" 1 8 none
  | .ldAtHlC => row "LD (HL),C" 1 8 none
  | .ldAtHlD => row "LD (HL),D" 1 8 none
  | .ldAtHlE => row "LD (HL),E" 1 8 none
  | .ldAtHlH => row "LD (HL),H" 1 8 none
  | .ldAtHlL => row "LD (HL),L" 1 8 none
  | .halt => row "HALT" 1 4 none
  | .ldAtHlA => row "LD (HL),A" 1 8 none
  | .ldAB => row "LD A,B" 1 4 none
  | .ldAC => row "LD A,C" 1 4 none
  | .ldAD => row "LD A,D" 1 4 none
  | .ldAE => row "LD A,E" 1 4 none
  | .ldAH => row "LD A,H" 1 4 none
  | .ldAL => row "LD A,L" 1 4 none
  | .ldAAtHl => row "LD A,(HL)" 1 8 none
  | .ldAA => row "LD A,A" 1 4 none
  | .addAB => row "ADD A,B" 1 4 fz0hc
  | .addAC => row "ADD A,C" 1 4 fz0hc
  | .addAD => row "ADD A,D" 1 4 fz0hc
  | .addAE => row "ADD A,E" 1 4 fz0hc
  | .addAH => row "ADD A,H" 1 4 fz0hc
  | .addAL => row "ADD A,L" 1 4 fz0hc
  | .addAAtHl => row "ADD A,(HL)" 1 8 fz0hc
  | .addAA => row "ADD A,A" 1 4 fz0hc
  | .adcAB => row "ADC A,B" 1 4 fz0hc
  | .adcAC => row "ADC A,C" 1 4 fz0hc
  | .adcAD => row "ADC A,D" 1 4 fz0hc
  | .adcAE => row "ADC A,E" 1 4 fz0hc
  | .adcAH => row "ADC A,H" 1 4 fz0hc
  | .adcAL => row "ADC A,L" 1 4 fz0hc
  | .adcAAtHl => row "ADC A,(HL)" 1 8 fz0hc
  | .adcAA => row "ADC A,A" 1 4 fz0hc
  | .subB => row "SUB B" 1 4 fz1hc
  | .subC => row "SUB C" 1 4 fz1hc
  | .subD => row "SUB D" 1 4 fz1hc
  | .subE => row "SUB E" 1 4 fz1hc
  | .subH => row "SUB H" 1 4 fz1hc
  | .subL => row "SUB L" 1 4 fz1hc
  | .subAtHl => row "SUB (HL)" 1 8 fz1hc
  | .subA => row "SUB A" 1 4 fz1hc
  | .sbcAB => row "SBC A,B" 1 4 fz1hc
  | .sbcAC => row "SBC A,C" 1 4 fz1hc
  | .sbcAD => row "SBC A,D" 1 4 fz1hc
  | .sbcAE => row "SBC A,E" 1 4 fz1hc
  | .sbcAH => row "SBC A,H" 1 4 fz1hc
  | .sbcAL => row "SBC A,L" 1 4 fz1hc
  | .sbcAAtHl => row "SBC A,(HL)" 1 8 fz1hc
  | .sbcAA => row "SBC A,A" 1 4 fz1hc
  | .andB => row "AND B" 1 4 fz010
  | .andC => row "AND C" 1 4 fz010
  | .andD => row "AND D" 1 4 fz010
  | .andE => row "AND E" 1 4 fz010
  | .andH => row "AND H" 1 4 fz010
  | .andL => row "AND L" 1 4 fz010
  | .andAtHl => row "AND (HL)" 1 8 fz010
  | .andA => row "AND A" 1 4 fz010
  | .xorB => row "XOR B" 1 4 fz000
  | .xorC => row "XOR C" 1 4 fz000
  | .xorD => row "XOR D" 1 4 fz000
  | .xorE => row "XOR E" 1 4 fz000
  | .xorH => row "XOR H" 1 4 fz000
  | .xorL => row "XOR L" 1 4 fz000
  | .xorAtHl => row "XOR (HL)" 1 8 fz000
  | .xorA => row "XOR A" 1 4 fz000
  | .orB => row "OR B" 1 4 fz000
  | .orC => row "OR C" 1 4 fz000
  | .orD => row "OR D" 1 4 fz000
  | .orE => row "OR E" 1 4 fz000
  | .orH => row "OR H" 1 4 fz000
  | .orL => row "OR L" 1 4 fz000
  | .orAtHl => row "OR (HL)" 1 8 fz000
  | .orA => row "OR A" 1 4 fz000
  | .cpB => row "CP B" 1 4 fz1hc
  | .cpC => row "CP C" 1 4 fz1hc
  | .cpD => row "CP D" 1 4 fz1hc
  | .cpE => row "CP E" 1 4 fz1hc
  | .cpH => row "CP H" 1 4 fz1hc
  | .cpL => row "CP L" 1 4 fz1hc
  | .cpAtHl => row "CP (HL)" 1 8 fz1hc
  | .cpA => row "CP A" 1 4 fz1hc
  | .retNz => rowTaken "RET NZ" 1 8 20
  | .popBc => row "POP BC" 1 12 none
  | .jpNzA16 _ => rowTaken "JP NZ,a16" 3 12 16
  | .jpA16 _ => row "JP a16" 3 16 none
  | .callNzA16 _ => rowTaken "CALL NZ,a16" 3 12 24
  | .pushBc => row "PUSH BC" 1 16 none
  | .addAN8 _ => row "ADD A,n8" 2 8 fz0hc
  | .rst00 => row "RST 00H" 1 16 none
  | .retZ => rowTaken "RET Z" 1 8 20
  | .ret => row "RET" 1 16 none
  | .jpZA16 _ => rowTaken "JP Z,a16" 3 12 16
  | .callZA16 _ => rowTaken "CALL Z,a16" 3 12 24
  | .callA16 _ => row "CALL a16" 3 24 none
  | .adcAN8 _ => row "ADC A,n8" 2 8 fz0hc
  | .rst08 => row "RST 08H" 1 16 none
  | .retNc => rowTaken "RET NC" 1 8 20
  | .popDe => row "POP DE" 1 12 none
  | .jpNcA16 _ => rowTaken "JP NC,a16" 3 12 16
  | .undefinedD3 => row "UNDEFINED" 1 0 none
  | .callNcA16 _ => rowTaken "CALL NC,a16" 3 12 24
  | .pushDe => row "PUSH DE" 1 16 none
  | .subN8 _ => row "SUB n8" 2 8 fz1hc
  | .rst10 => row "RST 10H" 1 16 none
  | .retC => rowTaken "RET C" 1 8 20
  | .reti => row "RETI" 1 16 none
  | .jpCA16 _ => rowTaken "JP C,a16" 3 12 16
  | .undefinedDB => row "UNDEFINED" 1 0 none
  | .callCA16 _ => rowTaken "CALL C,a16" 3 12 24
  | .undefinedDD => row "UNDEFINED" 1 0 none
  | .sbcAN8 _ => row "SBC A,n8" 2 8 fz1hc
  | .rst18 => row "RST 18H" 1 16 none
  | .ldhAtA8A _ => row "LDH (a8),A" 2 12 none
  | .popHl => row "POP HL" 1 12 none
  | .ldAtCA => row "LD (C),A" 1 8 none
  | .undefinedE3 => row "UNDEFINED" 1 0 none
  | .undefinedE4 => row "UNDEFINED" 1 0 none
  | .pushHl => row "PUSH HL" 1 16 none
  | .andN8 _ => row "AND n8" 2 8 fz010
  | .rst20 => row "RST 20H" 1 16 none
  | .addSpE8 _ => row "ADD SP,e8" 2 16 f00hc
  | .jpHl => row "JP HL" 1 4 none
  | .ldAtA16A _ => row "LD (a16),A" 3 16 none
  | .undefinedEB => row "UNDEFINED" 1 0 none
  | .undefinedEC => row "UNDEFINED" 1 0 none
  | .undefinedED => row "UNDEFINED" 1 0 none
  | .xorN8 _ => row "XOR n8" 2 8 fz000
  | .rst28 => row "RST 28H" 1 16 none
  | .ldhAAtA8 _ => row "LDH A,(a8)" 2 12 none
  | .popAf => row "POP AF" 1 12 fznhc
  | .ldAAtC => row "LD A,(C)" 1 8 none
  | .di => row "DI" 1 4 none
  | .undefinedF4 => row "UNDEFINED" 1 0 none
  | .pushAf => row "PUSH AF" 1 16 none
  | .orN8 _ => row "OR n8" 2 8 fz000
  | .rst30 => row "RST 30H" 1 16 none
  | .ldHlSpE8 _ => row "LD HL,SP+e8" 2 12 f00hc
  | .ldSpHl => row "LD SP,HL" 1 8 none
  | .ldAAtA16 _ => row "LD A,(a16)" 3 16 none
  | .ei => row "EI" 1 4 none
  | .undefinedFC => row "UNDEFINED" 1 0 none
  | .undefinedFD => row "UNDEFINED" 1 0 none
  | .cpN8 _ => row "CP n8" 2 8 fz1hc
  | .rst38 => row "RST 38H" 1 16 none
  | .rlcB => row "RLC B" 2 8 fz00c
  | .rlcC => row "RLC C" 2 8 fz00c
  | .rlcD => row "RLC D" 2 8 fz00c
  | .rlcE => row "RLC E" 2 8 fz00c
  | .rlcH => row "RLC H" 2 8 fz00c
  | .rlcL => row "RLC L" 2 8 fz00c
  | .rlcAtHl => row "RLC (HL)" 2 16 fz00c
  | .rlcA => row "RLC A" 2 8 fz00c
  | .rrcB => row "RRC B" 2 8 fz00c
  | .rrcC => row "RRC C" 2 8 fz00c
  | .rrcD => row "RRC D" 2 8 fz00c
  | .rrcE => row "RRC E" 2 8 fz00c
  | .rrcH => row "RRC H" 2 8 fz00c
  | .rrcL => row "RRC L" 2 8 fz00c
  | .rrcAtHl => row "RRC (HL)" 2 16 fz00c
  | .rrcA => row "RRC A" 2 8 fz00c
  | .rlB => row "RL B" 2 8 fz00c
  | .rlC => row "RL C" 2 8 fz00c
  | .rlD => row "RL D" 2 8 fz00c
  | .rlE => row "RL E" 2 8 fz00c
  | .rlH => row "RL H" 2 8 fz00c
  | .rlL => row "RL L" 2 8 fz00c
  | .rlAtHl => row "RL (HL)" 2 16 fz00c
  | .rlA => row "RL A" 2 8 fz00c
  | .rrB => row "RR B" 2 8 fz00c
  | .rrC => row "RR C" 2 8 fz00c
  | .rrD => row "RR D" 2 8 fz00c
  | .rrE => row "RR E" 2 8 fz00c
  | .rrH => row "RR H" 2 8 fz00c
  | .rrL => row "RR L" 2 8 fz00c
  | .rrAtHl => row "RR (HL)" 2 16 fz00c
  | .rrA => row "RR A" 2 8 fz00c
  | .slaB => row "SLA B" 2 8 fz00c
  | .slaC => row "SLA C" 2 8 fz00c
  | .slaD => row "SLA D" 2 8 fz00c
  | .slaE => row "SLA E" 2 8 fz00c
  | .slaH => row "SLA H" 2 8 fz00c
  | .slaL => row "SLA L" 2 8 fz00c
  | .slaAtHl => row "SLA (HL)" 2 16 fz00c
  | .slaA => row "SLA A" 2 8 fz00c
  | .sraB => row "SRA B" 2 8 fz00c
  | .sraC => row "SRA C" 2 8 fz00c
  | .sraD => row "SRA D" 2 8 fz00c
  | .sraE => row "SRA E" 2 8 fz00c
  | .sraH => row "SRA H" 2 8 fz00c
  | .sraL => row "SRA L" 2 8 fz00c
  | .sraAtHl => row "SRA (HL)" 2 16 fz00c
  | .sraA => row "SRA A" 2 8 fz00c
  | .swapB => row "SWAP B" 2 8 fz000
  | .swapC => row "SWAP C" 2 8 fz000
  | .swapD => row "SWAP D" 2 8 fz000
  | .swapE => row "SWAP E" 2 8 fz000
  | .swapH => row "SWAP H" 2 8 fz000
  | .swapL => row "SWAP L" 2 8 fz000
  | .swapAtHl => row "SWAP (HL)" 2 16 fz000
  | .swapA => row "SWAP A" 2 8 fz000
  | .srlB => row "SRL B" 2 8 fz00c
  | .srlC => row "SRL C" 2 8 fz00c
  | .srlD => row "SRL D" 2 8 fz00c
  | .srlE => row "SRL E" 2 8 fz00c
  | .srlH => row "SRL H" 2 8 fz00c
  | .srlL => row "SRL L" 2 8 fz00c
  | .srlAtHl => row "SRL (HL)" 2 16 fz00c
  | .srlA => row "SRL A" 2 8 fz00c
  | .bit0B => row "BIT 0,B" 2 8 fz01_
  | .bit0C => row "BIT 0,C" 2 8 fz01_
  | .bit0D => row "BIT 0,D" 2 8 fz01_
  | .bit0E => row "BIT 0,E" 2 8 fz01_
  | .bit0H => row "BIT 0,H" 2 8 fz01_
  | .bit0L => row "BIT 0,L" 2 8 fz01_
  | .bit0AtHl => row "BIT 0,(HL)" 2 12 fz01_
  | .bit0A => row "BIT 0,A" 2 8 fz01_
  | .bit1B => row "BIT 1,B" 2 8 fz01_
  | .bit1C => row "BIT 1,C" 2 8 fz01_
  | .bit1D => row "BIT 1,D" 2 8 fz01_
  | .bit1E => row "BIT 1,E" 2 8 fz01_
  | .bit1H => row "BIT 1,H" 2 8 fz01_
  | .bit1L => row "BIT 1,L" 2 8 fz01_
  | .bit1AtHl => row "BIT 1,(HL)" 2 12 fz01_
  | .bit1A => row "BIT 1,A" 2 8 fz01_
  | .bit2B => row "BIT 2,B" 2 8 fz01_
  | .bit2C => row "BIT 2,C" 2 8 fz01_
  | .bit2D => row "BIT 2,D" 2 8 fz01_
  | .bit2E => row "BIT 2,E" 2 8 fz01_
  | .bit2H => row "BIT 2,H" 2 8 fz01_
  | .bit2L => row "BIT 2,L" 2 8 fz01_
  | .bit2AtHl => row "BIT 2,(HL)" 2 12 fz01_
  | .bit2A => row "BIT 2,A" 2 8 fz01_
  | .bit3B => row "BIT 3,B" 2 8 fz01_
  | .bit3C => row "BIT 3,C" 2 8 fz01_
  | .bit3D => row "BIT 3,D" 2 8 fz01_
  | .bit3E => row "BIT 3,E" 2 8 fz01_
  | .bit3H => row "BIT 3,H" 2 8 fz01_
  | .bit3L => row "BIT 3,L" 2 8 fz01_
  | .bit3AtHl => row "BIT 3,(HL)" 2 12 fz01_
  | .bit3A => row "BIT 3,A" 2 8 fz01_
  | .bit4B => row "BIT 4,B" 2 8 fz01_
  | .bit4C => row "BIT 4,C" 2 8 fz01_
  | .bit4D => row "BIT 4,D" 2 8 fz01_
  | .bit4E => row "BIT 4,E" 2 8 fz01_
  | .bit4H => row "BIT 4,H" 2 8 fz01_
  | .bit4L => row "BIT 4,L" 2 8 fz01_
  | .bit4AtHl => row "BIT 4,(HL)" 2 12 fz01_
  | .bit4A => row "BIT 4,A" 2 8 fz01_
  | .bit5B => row "BIT 5,B" 2 8 fz01_
  | .bit5C => row "BIT 5,C" 2 8 fz01_
  | .bit5D => row "BIT 5,D" 2 8 fz01_
  | .bit5E => row "BIT 5,E" 2 8 fz01_
  | .bit5H => row "BIT 5,H" 2 8 fz01_
  | .bit5L => row "BIT 5,L" 2 8 fz01_
  | .bit5AtHl => row "BIT 5,(HL)" 2 12 fz01_
  | .bit5A => row "BIT 5,A" 2 8 fz01_
  | .bit6B => row "BIT 6,B" 2 8 fz01_
  | .bit6C => row "BIT 6,C" 2 8 fz01_
  | .bit6D => row "BIT 6,D" 2 8 fz01_
  | .bit6E => row "BIT 6,E" 2 8 fz01_
  | .bit6H => row "BIT 6,H" 2 8 fz01_
  | .bit6L => row "BIT 6,L" 2 8 fz01_
  | .bit6AtHl => row "BIT 6,(HL)" 2 12 fz01_
  | .bit6A => row "BIT 6,A" 2 8 fz01_
  | .bit7B => row "BIT 7,B" 2 8 fz01_
  | .bit7C => row "BIT 7,C" 2 8 fz01_
  | .bit7D => row "BIT 7,D" 2 8 fz01_
  | .bit7E => row "BIT 7,E" 2 8 fz01_
  | .bit7H => row "BIT 7,H" 2 8 fz01_
  | .bit7L => row "BIT 7,L" 2 8 fz01_
  | .bit7AtHl => row "BIT 7,(HL)" 2 12 fz01_
  | .bit7A => row "BIT 7,A" 2 8 fz01_
  | .res0B => row "RES 0,B" 2 8 none
  | .res0C => row "RES 0,C" 2 8 none
  | .res0D => row "RES 0,D" 2 8 none
  | .res0E => row "RES 0,E" 2 8 none
  | .res0H => row "RES 0,H" 2 8 none
  | .res0L => row "RES 0,L" 2 8 none
  | .res0AtHl => row "RES 0,(HL)" 2 16 none
  | .res0A => row "RES 0,A" 2 8 none
  | .res1B => row "RES 1,B" 2 8 none
  | .res1C => row "RES 1,C" 2 8 none
  | .res1D => row "RES 1,D" 2 8 none
  | .res1E => row "RES 1,E" 2 8 none
  | .res1H => row "RES 1,H" 2 8 none
  | .res1L => row "RES 1,L" 2 8 none
  | .res1AtHl => row "RES 1,(HL)" 2 16 none
  | .res1A => row "RES 1,A" 2 8 none
  | .res2B => row "RES 2,B" 2 8 none
  | .res2C => row "RES 2,C" 2 8 none
  | .res2D => row "RES 2,D" 2 8 none
  | .res2E => row "RES 2,E" 2 8 none
  | .res2H => row "RES 2,H" 2 8 none
  | .res2L => row "RES 2,L" 2 8 none
  | .res2AtHl => row "RES 2,(HL)" 2 16 none
  | .res2A => row "RES 2,A" 2 8 none
  | .res3B => row "RES 3,B" 2 8 none
  | .res3C => row "RES 3,C" 2 8 none
  | .res3D => row "RES 3,D" 2 8 none
  | .res3E => row "RES 3,E" 2 8 none
  | .res3H => row "RES 3,H" 2 8 none
  | .res3L => row "RES 3,L" 2 8 none
  | .res3AtHl => row "RES 3,(HL)" 2 16 none
  | .res3A => row "RES 3,A" 2 8 none
  | .res4B => row "RES 4,B" 2 8 none
  | .res4C => row "RES 4,C" 2 8 none
  | .res4D => row "RES 4,D" 2 8 none
  | .res4E => row "RES 4,E" 2 8 none
  | .res4H => row "RES 4,H" 2 8 none
  | .res4L => row "RES 4,L" 2 8 none
  | .res4AtHl => row "RES 4,(HL)" 2 16 none
  | .res4A => row "RES 4,A" 2 8 none
  | .res5B => row "RES 5,B" 2 8 none
  | .res5C => row "RES 5,C" 2 8 none
  | .res5D => row "RES 5,D" 2 8 none
  | .res5E => row "RES 5,E" 2 8 none
  | .res5H => row "RES 5,H" 2 8 none
  | .res5L => row "RES 5,L" 2 8 none
  | .res5AtHl => row "RES 5,(HL)" 2 16 none
  | .res5A => row "RES 5,A" 2 8 none
  | .res6B => row "RES 6,B" 2 8 none
  | .res6C => row "RES 6,C" 2 8 none
  | .res6D => row "RES 6,D" 2 8 none
  | .res6E => row "RES 6,E" 2 8 none
  | .res6H => row "RES 6,H" 2 8 none
  | .res6L => row "RES 6,L" 2 8 none
  | .res6AtHl => row "RES 6,(HL)" 2 16 none
  | .res6A => row "RES 6,A" 2 8 none
  | .res7B => row "RES 7,B" 2 8 none
  | .res7C => row "RES 7,C" 2 8 none
  | .res7D => row "RES 7,D" 2 8 none
  | .res7E => row "RES 7,E" 2 8 none
  | .res7H => row "RES 7,H" 2 8 none
  | .res7L => row "RES 7,L" 2 8 none
  | .res7AtHl => row "RES 7,(HL)" 2 16 none
  | .res7A => row "RES 7,A" 2 8 none
  | .set0B => row "SET 0,B" 2 8 none
  | .set0C => row "SET 0,C" 2 8 none
  | .set0D => row "SET 0,D" 2 8 none
  | .set0E => row "SET 0,E" 2 8 none
  | .set0H => row "SET 0,H" 2 8 none
  | .set0L => row "SET 0,L" 2 8 none
  | .set0AtHl => row "SET 0,(HL)" 2 16 none
  | .set0A => row "SET 0,A" 2 8 none
  | .set1B => row "SET 1,B" 2 8 none
  | .set1C => row "SET 1,C" 2 8 none
  | .set1D => row "SET 1,D" 2 8 none
  | .set1E => row "SET 1,E" 2 8 none
  | .set1H => row "SET 1,H" 2 8 none
  | .set1L => row "SET 1,L" 2 8 none
  | .set1AtHl => row "SET 1,(HL)" 2 16 none
  | .set1A => row "SET 1,A" 2 8 none
  | .set2B => row "SET 2,B" 2 8 none
  | .set2C => row "SET 2,C" 2 8 none
  | .set2D => row "SET 2,D" 2 8 none
  | .set2E => row "SET 2,E" 2 8 none
  | .set2H => row "SET 2,H" 2 8 none
  | .set2L => row "SET 2,L" 2 8 none
  | .set2AtHl => row "SET 2,(HL)" 2 16 none
  | .set2A => row "SET 2,A" 2 8 none
  | .set3B => row "SET 3,B" 2 8 none
  | .set3C => row "SET 3,C" 2 8 none
  | .set3D => row "SET 3,D" 2 8 none
  | .set3E => row "SET 3,E" 2 8 none
  | .set3H => row "SET 3,H" 2 8 none
  | .set3L => row "SET 3,L" 2 8 none
  | .set3AtHl => row "SET 3,(HL)" 2 16 none
  | .set3A => row "SET 3,A" 2 8 none
  | .set4B => row "SET 4,B" 2 8 none
  | .set4C => row "SET 4,C" 2 8 none
  | .set4D => row "SET 4,D" 2 8 none
  | .set4E => row "SET 4,E" 2 8 none
  | .set4H => row "SET 4,H" 2 8 none
  | .set4L => row "SET 4,L" 2 8 none
  | .set4AtHl => row "SET 4,(HL)" 2 16 none
  | .set4A => row "SET 4,A" 2 8 none
  | .set5B => row "SET 5,B" 2 8 none
  | .set5C => row "SET 5,C" 2 8 none
  | .set5D => row "SET 5,D" 2 8 none
  | .set5E => row "SET 5,E" 2 8 none
  | .set5H => row "SET 5,H" 2 8 none
  | .set5L => row "SET 5,L" 2 8 none
  | .set5AtHl => row "SET 5,(HL)" 2 16 none
  | .set5A => row "SET 5,A" 2 8 none
  | .set6B => row "SET 6,B" 2 8 none
  | .set6C => row "SET 6,C" 2 8 none
  | .set6D => row "SET 6,D" 2 8 none
  | .set6E => row "SET 6,E" 2 8 none
  | .set6H => row "SET 6,H" 2 8 none
  | .set6L => row "SET 6,L" 2 8 none
  | .set6AtHl => row "SET 6,(HL)" 2 16 none
  | .set6A => row "SET 6,A" 2 8 none
  | .set7B => row "SET 7,B" 2 8 none
  | .set7C => row "SET 7,C" 2 8 none
  | .set7D => row "SET 7,D" 2 8 none
  | .set7E => row "SET 7,E" 2 8 none
  | .set7H => row "SET 7,H" 2 8 none
  | .set7L => row "SET 7,L" 2 8 none
  | .set7AtHl => row "SET 7,(HL)" 2 16 none
  | .set7A => row "SET 7,A" 2 8 none

/-- The total length in bytes (R150). -/
def Instr.length (i : Instr) : Nat := i.descriptor.length

/-- The length is a function of the first byte alone (R160): that of the row the byte selects. -/
def opcodeLength (op : Byte) : Nat := (decode3 op 0 0).length

/-! ## The encoder -/

/-- The bytes of an instruction, from the `encoding` column of opcode_table.json. -/
def encode (i : Instr) : List Byte :=
  match i with
  | .nop => [0x00]
  | .ldBcN16 nn => [0x01, loByte nn, hiByte nn]
  | .ldAtBcA => [0x02]
  | .incBc => [0x03]
  | .incB => [0x04]
  | .decB => [0x05]
  | .ldBN8 n => [0x06, n]
  | .rlca => [0x07]
  | .ldAtA16Sp a => [0x08, loByte a, hiByte a]
  | .addHlBc => [0x09]
  | .ldAAtBc => [0x0A]
  | .decBc => [0x0B]
  | .incC => [0x0C]
  | .decC => [0x0D]
  | .ldCN8 n => [0x0E, n]
  | .rrca => [0x0F]
  | .stop n => [0x10, n]
  | .ldDeN16 nn => [0x11, loByte nn, hiByte nn]
  | .ldAtDeA => [0x12]
  | .incDe => [0x13]
  | .incD => [0x14]
  | .decD => [0x15]
  | .ldDN8 n => [0x16, n]
  | .rla => [0x17]
  | .jrE8 e => [0x18, e]
  | .addHlDe => [0x19]
  | .ldAAtDe => [0x1A]
  | .decDe => [0x1B]
  | .incE => [0x1C]
  | .decE => [0x1D]
  | .ldEN8 n => [0x1E, n]
  | .rra => [0x1F]
  | .jrNzE8 e => [0x20, e]
  | .ldHlN16 nn => [0x21, loByte nn, hiByte nn]
  | .ldAtHliA => [0x22]
  | .incHl => [0x23]
  | .incH => [0x24]
  | .decH => [0x25]
  | .ldHN8 n => [0x26, n]
  | .daa => [0x27]
  | .jrZE8 e => [0x28, e]
  | .addHlHl => [0x29]
  | .ldAAtHli => [0x2A]
  | .decHl => [0x2B]
  | .incL => [0x2C]
  | .decL => [0x2D]
  | .ldLN8 n => [0x2E, n]
  | .cpl => [0x2F]
  | .jrNcE8 e => [0x30, e]
  | .ldSpN16 nn => [0x31, loByte nn, hiByte nn]
  | .ldAtHldA => [0x32]
  | .incSp => [0x33]
  | .incAtHl => [0x34]
  | .decAtHl => [0x35]
  | .ldAtHlN8 n => [0x36, n]
  | .scf => [0x37]
  | .jrCE8 e => [0x38, e]
  | .addHlSp => [0x39]
  | .ldAAtHld => [0x3A]
  | .decSp => [0x3B]
  | .incA => [0x3C]
  | .decA => [0x3D]
  | .ldAN8 n => [0x3E, n]
  | .ccf => [0x3F]
  | .ldBB => [0x40]
  | .ldBC => [0x41]
  | .ldBD => [0x42]
  | .ldBE => [0x43]
  | .ldBH => [0x44]
  | .ldBL => [0x45]
  | .ldBAtHl => [0x46]
  | .ldBA => [0x47]
  | .ldCB => [0x48]
  | .ldCC => [0x49]
  | .ldCD => [0x4A]
  | .ldCE => [0x4B]
  | .ldCH => [0x4C]
  | .ldCL => [0x4D]
  | .ldCAtHl => [0x4E]
  | .ldCA => [0x4F]
  | .ldDB => [0x50]
  | .ldDC => [0x51]
  | .ldDD => [0x52]
  | .ldDE => [0x53]
  | .ldDH => [0x54]
  | .ldDL => [0x55]
  | .ldDAtHl => [0x56]
  | .ldDA => [0x57]
  | .ldEB => [0x58]
  | .ldEC => [0x59]
  | .ldED => [0x5A]
  | .ldEE => [0x5B]
  | .ldEH => [0x5C]
  | .ldEL => [0x5D]
  | .ldEAtHl => [0x5E]
  | .ldEA => [0x5F]
  | .ldHB => [0x60]
  | .ldHC => [0x61]
  | .ldHD => [0x62]
  | .ldHE => [0x63]
  | .ldHH => [0x64]
  | .ldHL => [0x65]
  | .ldHAtHl => [0x66]
  | .ldHA => [0x67]
  | .ldLB => [0x68]
  | .ldLC => [0x69]
  | .ldLD => [0x6A]
  | .ldLE => [0x6B]
  | .ldLH => [0x6C]
  | .ldLL => [0x6D]
  | .ldLAtHl => [0x6E]
  | .ldLA => [0x6F]
  | .ldAtHlB => [0x70]
  | .ldAtHlC => [0x71]
  | .ldAtHlD => [0x72]
  | .ldAtHlE => [0x73]
  | .ldAtHlH => [0x74]
  | .ldAtHlL => [0x75]
  | .halt => [0x76]
  | .ldAtHlA => [0x77]
  | .ldAB => [0x78]
  | .ldAC => [0x79]
  | .ldAD => [0x7A]
  | .ldAE => [0x7B]
  | .ldAH => [0x7C]
  | .ldAL => [0x7D]
  | .ldAAtHl => [0x7E]
  | .ldAA => [0x7F]
  | .addAB => [0x80]
  | .addAC => [0x81]
  | .addAD => [0x82]
  | .addAE => [0x83]
  | .addAH => [0x84]
  | .addAL => [0x85]
  | .addAAtHl => [0x86]
  | .addAA => [0x87]
  | .adcAB => [0x88]
  | .adcAC => [0x89]
  | .adcAD => [0x8A]
  | .adcAE => [0x8B]
  | .adcAH => [0x8C]
  | .adcAL => [0x8D]
  | .adcAAtHl => [0x8E]
  | .adcAA => [0x8F]
  | .subB => [0x90]
  | .subC => [0x91]
  | .subD => [0x92]
  | .subE => [0x93]
  | .subH => [0x94]
  | .subL => [0x95]
  | .subAtHl => [0x96]
  | .subA => [0x97]
  | .sbcAB => [0x98]
  | .sbcAC => [0x99]
  | .sbcAD => [0x9A]
  | .sbcAE => [0x9B]
  | .sbcAH => [0x9C]
  | .sbcAL => [0x9D]
  | .sbcAAtHl => [0x9E]
  | .sbcAA => [0x9F]
  | .andB => [0xA0]
  | .andC => [0xA1]
  | .andD => [0xA2]
  | .andE => [0xA3]
  | .andH => [0xA4]
  | .andL => [0xA5]
  | .andAtHl => [0xA6]
  | .andA => [0xA7]
  | .xorB => [0xA8]
  | .xorC => [0xA9]
  | .xorD => [0xAA]
  | .xorE => [0xAB]
  | .xorH => [0xAC]
  | .xorL => [0xAD]
  | .xorAtHl => [0xAE]
  | .xorA => [0xAF]
  | .orB => [0xB0]
  | .orC => [0xB1]
  | .orD => [0xB2]
  | .orE => [0xB3]
  | .orH => [0xB4]
  | .orL => [0xB5]
  | .orAtHl => [0xB6]
  | .orA => [0xB7]
  | .cpB => [0xB8]
  | .cpC => [0xB9]
  | .cpD => [0xBA]
  | .cpE => [0xBB]
  | .cpH => [0xBC]
  | .cpL => [0xBD]
  | .cpAtHl => [0xBE]
  | .cpA => [0xBF]
  | .retNz => [0xC0]
  | .popBc => [0xC1]
  | .jpNzA16 a => [0xC2, loByte a, hiByte a]
  | .jpA16 a => [0xC3, loByte a, hiByte a]
  | .callNzA16 a => [0xC4, loByte a, hiByte a]
  | .pushBc => [0xC5]
  | .addAN8 n => [0xC6, n]
  | .rst00 => [0xC7]
  | .retZ => [0xC8]
  | .ret => [0xC9]
  | .jpZA16 a => [0xCA, loByte a, hiByte a]
  | .callZA16 a => [0xCC, loByte a, hiByte a]
  | .callA16 a => [0xCD, loByte a, hiByte a]
  | .adcAN8 n => [0xCE, n]
  | .rst08 => [0xCF]
  | .retNc => [0xD0]
  | .popDe => [0xD1]
  | .jpNcA16 a => [0xD2, loByte a, hiByte a]
  | .undefinedD3 => [0xD3]
  | .callNcA16 a => [0xD4, loByte a, hiByte a]
  | .pushDe => [0xD5]
  | .subN8 n => [0xD6, n]
  | .rst10 => [0xD7]
  | .retC => [0xD8]
  | .reti => [0xD9]
  | .jpCA16 a => [0xDA, loByte a, hiByte a]
  | .undefinedDB => [0xDB]
  | .callCA16 a => [0xDC, loByte a, hiByte a]
  | .undefinedDD => [0xDD]
  | .sbcAN8 n => [0xDE, n]
  | .rst18 => [0xDF]
  | .ldhAtA8A a => [0xE0, a]
  | .popHl => [0xE1]
  | .ldAtCA => [0xE2]
  | .undefinedE3 => [0xE3]
  | .undefinedE4 => [0xE4]
  | .pushHl => [0xE5]
  | .andN8 n => [0xE6, n]
  | .rst20 => [0xE7]
  | .addSpE8 e => [0xE8, e]
  | .jpHl => [0xE9]
  | .ldAtA16A a => [0xEA, loByte a, hiByte a]
  | .undefinedEB => [0xEB]
  | .undefinedEC => [0xEC]
  | .undefinedED => [0xED]
  | .xorN8 n => [0xEE, n]
  | .rst28 => [0xEF]
  | .ldhAAtA8 a => [0xF0, a]
  | .popAf => [0xF1]
  | .ldAAtC => [0xF2]
  | .di => [0xF3]
  | .undefinedF4 => [0xF4]
  | .pushAf => [0xF5]
  | .orN8 n => [0xF6, n]
  | .rst30 => [0xF7]
  | .ldHlSpE8 e => [0xF8, e]
  | .ldSpHl => [0xF9]
  | .ldAAtA16 a => [0xFA, loByte a, hiByte a]
  | .ei => [0xFB]
  | .undefinedFC => [0xFC]
  | .undefinedFD => [0xFD]
  | .cpN8 n => [0xFE, n]
  | .rst38 => [0xFF]
  | .rlcB => [0xCB, 0x00]
  | .rlcC => [0xCB, 0x01]
  | .rlcD => [0xCB, 0x02]
  | .rlcE => [0xCB, 0x03]
  | .rlcH => [0xCB, 0x04]
  | .rlcL => [0xCB, 0x05]
  | .rlcAtHl => [0xCB, 0x06]
  | .rlcA => [0xCB, 0x07]
  | .rrcB => [0xCB, 0x08]
  | .rrcC => [0xCB, 0x09]
  | .rrcD => [0xCB, 0x0A]
  | .rrcE => [0xCB, 0x0B]
  | .rrcH => [0xCB, 0x0C]
  | .rrcL => [0xCB, 0x0D]
  | .rrcAtHl => [0xCB, 0x0E]
  | .rrcA => [0xCB, 0x0F]
  | .rlB => [0xCB, 0x10]
  | .rlC => [0xCB, 0x11]
  | .rlD => [0xCB, 0x12]
  | .rlE => [0xCB, 0x13]
  | .rlH => [0xCB, 0x14]
  | .rlL => [0xCB, 0x15]
  | .rlAtHl => [0xCB, 0x16]
  | .rlA => [0xCB, 0x17]
  | .rrB => [0xCB, 0x18]
  | .rrC => [0xCB, 0x19]
  | .rrD => [0xCB, 0x1A]
  | .rrE => [0xCB, 0x1B]
  | .rrH => [0xCB, 0x1C]
  | .rrL => [0xCB, 0x1D]
  | .rrAtHl => [0xCB, 0x1E]
  | .rrA => [0xCB, 0x1F]
  | .slaB => [0xCB, 0x20]
  | .slaC => [0xCB, 0x21]
  | .slaD => [0xCB, 0x22]
  | .slaE => [0xCB, 0x23]
  | .slaH => [0xCB, 0x24]
  | .slaL => [0xCB, 0x25]
  | .slaAtHl => [0xCB, 0x26]
  | .slaA => [0xCB, 0x27]
  | .sraB => [0xCB, 0x28]
  | .sraC => [0xCB, 0x29]
  | .sraD => [0xCB, 0x2A]
  | .sraE => [0xCB, 0x2B]
  | .sraH => [0xCB, 0x2C]
  | .sraL => [0xCB, 0x2D]
  | .sraAtHl => [0xCB, 0x2E]
  | .sraA => [0xCB, 0x2F]
  | .swapB => [0xCB, 0x30]
  | .swapC => [0xCB, 0x31]
  | .swapD => [0xCB, 0x32]
  | .swapE => [0xCB, 0x33]
  | .swapH => [0xCB, 0x34]
  | .swapL => [0xCB, 0x35]
  | .swapAtHl => [0xCB, 0x36]
  | .swapA => [0xCB, 0x37]
  | .srlB => [0xCB, 0x38]
  | .srlC => [0xCB, 0x39]
  | .srlD => [0xCB, 0x3A]
  | .srlE => [0xCB, 0x3B]
  | .srlH => [0xCB, 0x3C]
  | .srlL => [0xCB, 0x3D]
  | .srlAtHl => [0xCB, 0x3E]
  | .srlA => [0xCB, 0x3F]
  | .bit0B => [0xCB, 0x40]
  | .bit0C => [0xCB, 0x41]
  | .bit0D => [0xCB, 0x42]
  | .bit0E => [0xCB, 0x43]
  | .bit0H => [0xCB, 0x44]
  | .bit0L => [0xCB, 0x45]
  | .bit0AtHl => [0xCB, 0x46]
  | .bit0A => [0xCB, 0x47]
  | .bit1B => [0xCB, 0x48]
  | .bit1C => [0xCB, 0x49]
  | .bit1D => [0xCB, 0x4A]
  | .bit1E => [0xCB, 0x4B]
  | .bit1H => [0xCB, 0x4C]
  | .bit1L => [0xCB, 0x4D]
  | .bit1AtHl => [0xCB, 0x4E]
  | .bit1A => [0xCB, 0x4F]
  | .bit2B => [0xCB, 0x50]
  | .bit2C => [0xCB, 0x51]
  | .bit2D => [0xCB, 0x52]
  | .bit2E => [0xCB, 0x53]
  | .bit2H => [0xCB, 0x54]
  | .bit2L => [0xCB, 0x55]
  | .bit2AtHl => [0xCB, 0x56]
  | .bit2A => [0xCB, 0x57]
  | .bit3B => [0xCB, 0x58]
  | .bit3C => [0xCB, 0x59]
  | .bit3D => [0xCB, 0x5A]
  | .bit3E => [0xCB, 0x5B]
  | .bit3H => [0xCB, 0x5C]
  | .bit3L => [0xCB, 0x5D]
  | .bit3AtHl => [0xCB, 0x5E]
  | .bit3A => [0xCB, 0x5F]
  | .bit4B => [0xCB, 0x60]
  | .bit4C => [0xCB, 0x61]
  | .bit4D => [0xCB, 0x62]
  | .bit4E => [0xCB, 0x63]
  | .bit4H => [0xCB, 0x64]
  | .bit4L => [0xCB, 0x65]
  | .bit4AtHl => [0xCB, 0x66]
  | .bit4A => [0xCB, 0x67]
  | .bit5B => [0xCB, 0x68]
  | .bit5C => [0xCB, 0x69]
  | .bit5D => [0xCB, 0x6A]
  | .bit5E => [0xCB, 0x6B]
  | .bit5H => [0xCB, 0x6C]
  | .bit5L => [0xCB, 0x6D]
  | .bit5AtHl => [0xCB, 0x6E]
  | .bit5A => [0xCB, 0x6F]
  | .bit6B => [0xCB, 0x70]
  | .bit6C => [0xCB, 0x71]
  | .bit6D => [0xCB, 0x72]
  | .bit6E => [0xCB, 0x73]
  | .bit6H => [0xCB, 0x74]
  | .bit6L => [0xCB, 0x75]
  | .bit6AtHl => [0xCB, 0x76]
  | .bit6A => [0xCB, 0x77]
  | .bit7B => [0xCB, 0x78]
  | .bit7C => [0xCB, 0x79]
  | .bit7D => [0xCB, 0x7A]
  | .bit7E => [0xCB, 0x7B]
  | .bit7H => [0xCB, 0x7C]
  | .bit7L => [0xCB, 0x7D]
  | .bit7AtHl => [0xCB, 0x7E]
  | .bit7A => [0xCB, 0x7F]
  | .res0B => [0xCB, 0x80]
  | .res0C => [0xCB, 0x81]
  | .res0D => [0xCB, 0x82]
  | .res0E => [0xCB, 0x83]
  | .res0H => [0xCB, 0x84]
  | .res0L => [0xCB, 0x85]
  | .res0AtHl => [0xCB, 0x86]
  | .res0A => [0xCB, 0x87]
  | .res1B => [0xCB, 0x88]
  | .res1C => [0xCB, 0x89]
  | .res1D => [0xCB, 0x8A]
  | .res1E => [0xCB, 0x8B]
  | .res1H => [0xCB, 0x8C]
  | .res1L => [0xCB, 0x8D]
  | .res1AtHl => [0xCB, 0x8E]
  | .res1A => [0xCB, 0x8F]
  | .res2B => [0xCB, 0x90]
  | .res2C => [0xCB, 0x91]
  | .res2D => [0xCB, 0x92]
  | .res2E => [0xCB, 0x93]
  | .res2H => [0xCB, 0x94]
  | .res2L => [0xCB, 0x95]
  | .res2AtHl => [0xCB, 0x96]
  | .res2A => [0xCB, 0x97]
  | .res3B => [0xCB, 0x98]
  | .res3C => [0xCB, 0x99]
  | .res3D => [0xCB, 0x9A]
  | .res3E => [0xCB, 0x9B]
  | .res3H => [0xCB, 0x9C]
  | .res3L => [0xCB, 0x9D]
  | .res3AtHl => [0xCB, 0x9E]
  | .res3A => [0xCB, 0x9F]
  | .res4B => [0xCB, 0xA0]
  | .res4C => [0xCB, 0xA1]
  | .res4D => [0xCB, 0xA2]
  | .res4E => [0xCB, 0xA3]
  | .res4H => [0xCB, 0xA4]
  | .res4L => [0xCB, 0xA5]
  | .res4AtHl => [0xCB, 0xA6]
  | .res4A => [0xCB, 0xA7]
  | .res5B => [0xCB, 0xA8]
  | .res5C => [0xCB, 0xA9]
  | .res5D => [0xCB, 0xAA]
  | .res5E => [0xCB, 0xAB]
  | .res5H => [0xCB, 0xAC]
  | .res5L => [0xCB, 0xAD]
  | .res5AtHl => [0xCB, 0xAE]
  | .res5A => [0xCB, 0xAF]
  | .res6B => [0xCB, 0xB0]
  | .res6C => [0xCB, 0xB1]
  | .res6D => [0xCB, 0xB2]
  | .res6E => [0xCB, 0xB3]
  | .res6H => [0xCB, 0xB4]
  | .res6L => [0xCB, 0xB5]
  | .res6AtHl => [0xCB, 0xB6]
  | .res6A => [0xCB, 0xB7]
  | .res7B => [0xCB, 0xB8]
  | .res7C => [0xCB, 0xB9]
  | .res7D => [0xCB, 0xBA]
  | .res7E => [0xCB, 0xBB]
  | .res7H => [0xCB, 0xBC]
  | .res7L => [0xCB, 0xBD]
  | .res7AtHl => [0xCB, 0xBE]
  | .res7A => [0xCB, 0xBF]
  | .set0B => [0xCB, 0xC0]
  | .set0C => [0xCB, 0xC1]
  | .set0D => [0xCB, 0xC2]
  | .set0E => [0xCB, 0xC3]
  | .set0H => [0xCB, 0xC4]
  | .set0L => [0xCB, 0xC5]
  | .set0AtHl => [0xCB, 0xC6]
  | .set0A => [0xCB, 0xC7]
  | .set1B => [0xCB, 0xC8]
  | .set1C => [0xCB, 0xC9]
  | .set1D => [0xCB, 0xCA]
  | .set1E => [0xCB, 0xCB]
  | .set1H => [0xCB, 0xCC]
  | .set1L => [0xCB, 0xCD]
  | .set1AtHl => [0xCB, 0xCE]
  | .set1A => [0xCB, 0xCF]
  | .set2B => [0xCB, 0xD0]
  | .set2C => [0xCB, 0xD1]
  | .set2D => [0xCB, 0xD2]
  | .set2E => [0xCB, 0xD3]
  | .set2H => [0xCB, 0xD4]
  | .set2L => [0xCB, 0xD5]
  | .set2AtHl => [0xCB, 0xD6]
  | .set2A => [0xCB, 0xD7]
  | .set3B => [0xCB, 0xD8]
  | .set3C => [0xCB, 0xD9]
  | .set3D => [0xCB, 0xDA]
  | .set3E => [0xCB, 0xDB]
  | .set3H => [0xCB, 0xDC]
  | .set3L => [0xCB, 0xDD]
  | .set3AtHl => [0xCB, 0xDE]
  | .set3A => [0xCB, 0xDF]
  | .set4B => [0xCB, 0xE0]
  | .set4C => [0xCB, 0xE1]
  | .set4D => [0xCB, 0xE2]
  | .set4E => [0xCB, 0xE3]
  | .set4H => [0xCB, 0xE4]
  | .set4L => [0xCB, 0xE5]
  | .set4AtHl => [0xCB, 0xE6]
  | .set4A => [0xCB, 0xE7]
  | .set5B => [0xCB, 0xE8]
  | .set5C => [0xCB, 0xE9]
  | .set5D => [0xCB, 0xEA]
  | .set5E => [0xCB, 0xEB]
  | .set5H => [0xCB, 0xEC]
  | .set5L => [0xCB, 0xED]
  | .set5AtHl => [0xCB, 0xEE]
  | .set5A => [0xCB, 0xEF]
  | .set6B => [0xCB, 0xF0]
  | .set6C => [0xCB, 0xF1]
  | .set6D => [0xCB, 0xF2]
  | .set6E => [0xCB, 0xF3]
  | .set6H => [0xCB, 0xF4]
  | .set6L => [0xCB, 0xF5]
  | .set6AtHl => [0xCB, 0xF6]
  | .set6A => [0xCB, 0xF7]
  | .set7B => [0xCB, 0xF8]
  | .set7C => [0xCB, 0xF9]
  | .set7D => [0xCB, 0xFA]
  | .set7E => [0xCB, 0xFB]
  | .set7H => [0xCB, 0xFC]
  | .set7L => [0xCB, 0xFD]
  | .set7AtHl => [0xCB, 0xFE]
  | .set7A => [0xCB, 0xFF]

/-! ## Decoding lists of bytes and table words -/

/-- Why a list of bytes holds no instruction at its head: it ends too soon. No byte value is refused (R160). -/
inductive DecodeError where
  /-- There is no opcode byte. -/
  | noOpcode
  /-- The opcode `op` needs `need` bytes and the list has `got`. -/
  | truncated (op : Byte) (got need : Nat)
deriving DecidableEq, Repr

/-- Decode the instruction at the head of a list of bytes; the rest of the list is returned. -/
def decodeBytes (bs : List Byte) : Except DecodeError (Instr × List Byte) :=
  match bs with
  | [] => .error .noOpcode
  | op :: rest =>
    if rest.length + 1 < opcodeLength op then .error (.truncated op (rest.length + 1) (opcodeLength op))
    else .ok (decode3 op (rest.getD 0 0) (rest.getD 1 0), rest.drop (opcodeLength op - 1))

/-- The three bytes, lowest address first, of the instruction that opcode_table.json numbers as the `nbits`-bit value
`w`. A 16-bit row of the table is a CB row, whose key is `0xCB ++ suffix` with the prefix, the first byte, in bits 15:8
(R160); every other value has its first byte in bits 7:0 (notes/assumptions/9.md). -/
def tableBytes (nbits w : Nat) : Byte × Byte × Byte :=
  if nbits = 16 ∧ w / 256 % 256 = 0xCB then (0xCB, BitVec.ofNat 8 w, 0)
  else
    let v := w % 2 ^ nbits
    (BitVec.ofNat 8 v, BitVec.ofNat 8 (v / 256), BitVec.ofNat 8 (v / 65536))

/-- The instruction the decoder reads from a table word. -/
def decodeTableWord (nbits w : Nat) : Option Instr :=
  let t := tableBytes nbits w
  match decodeBytes [t.1, t.2.1, t.2.2] with
  | .ok r => some r.1
  | .error _ => none

end Sys2Proof
end

