-- ==== Sys2Proof/Config.lean ====
section
/-! DEFINITION. The implementation parameters of 00_scope.md R8 that choose a behaviour.
The spec leaves nothing else open: no row of 93_implementation_defined.md is `any value`, so there is no free value
here. `P_CART`, `P_BOOT_IMAGE` and `P_INIT` are data, not behaviour, and stand in Machine/State.lean. -/

namespace Sys2Proof

/-- `P_IRQ_MODE` (R8, 60_exceptions.md R454). -/
inductive IrqMode where
  | failLoudly
  | standard
deriving DecidableEq, Repr

/-- `P_UNUSABLE_WRITE` (R8, 20_memory.md R109). -/
inductive UnusableWrite where
  | fault
  | ignore
deriving DecidableEq, Repr

/-- `P_DMA_MODE` (R8, 20_memory.md R116). -/
inductive DmaMode where
  | fault
  | storage
  | copy
deriving DecidableEq, Repr

/-- `P_FRAME_COUNT_POINT` (R8, 60_exceptions.md R472). -/
inductive FrameCountPoint where
  | vblankEntry
  | frameWrap
deriving DecidableEq, Repr

/-- `P_LAUNCH` (R8, 70_reset_and_hazards.md R521, R522). -/
inductive LaunchMode where
  | bootOverlay
  | postBoot
deriving DecidableEq, Repr

/-- The parameters a running core reads, with the defaults of R8's table. -/
structure Params where
  irqMode : IrqMode := .failLoudly
  unusableWrite : UnusableWrite := .fault
  dmaMode : DmaMode := .fault
  frameCountPoint : FrameCountPoint := .vblankEntry
deriving DecidableEq, Repr

end Sys2Proof
end

