-- ==== Sys2Proof/Machine/State.lean ====
section
/-! DEFINITION. The state of the core (10_state.md R30 to R64), its faults (60_exceptions.md R450), and reset
(70_reset_and_hazards.md R520 to R527). -/

namespace Sys2Proof.Machine

/-- The scheduler's four modes (10_state.md R45). -/
inductive Mode where
  | oamRead
  | vramRead
  | hblank
  | vblank
deriving DecidableEq, Repr

/-- The register file (R30): eight bytes; the pairs AF, BC, DE, HL are views of them (R31). -/
structure Regs where
  a : Byte
  f : Byte
  b : Byte
  c : Byte
  d : Byte
  e : Byte
  h : Byte
  l : Byte
deriving DecidableEq, Repr

/-- The GPU Mode Scheduler's state (R45). `frameSignals`, the number of frame-complete signals emitted (60_exceptions.md
R472), is the model's own field: it makes the signal observable (notes/assumptions/7.md). -/
structure Gpu where
  mode : Mode
  scanline : Nat
  acc : Nat
  frames : Nat
  frameSignals : Nat
deriving DecidableEq, Repr

/-- Bytes by address, in the canonical form of `Memory.wf` (Machine/Ops.lean). -/
abbrev Memory := List Host.Cell

/-- The launch inputs a running core reads (R44, 00_scope.md R8): the first 0x8000 bytes of `P_CART`, `P_BOOT_IMAGE`, and
the parameters. No step writes them (notes/assumptions/1.md). -/
structure Launch where
  cart : Memory
  boot : Memory
  params : Params
deriving DecidableEq, Repr

/-- A fault's kind and info (60_exceptions.md R450). -/
inductive FaultKind where
  | bankSwitch (addr : Word) (value : Byte)
  | unusableWrite (addr : Word) (value : Byte)
  | oamDma (value : Byte)
  | interruptDispatch (pending : BitVec 5)
  | halt (pc0 : Word)
  | haltBug (pc0 : Word)
  | stop (pc0 : Word)
  | invariantViolation (what : String)
deriving DecidableEq, Repr

/-- A fault record (R450): the kind with its info, and `at`, here `origin`: the address of the opcode of the instruction
that raised it, or PC at the step boundary. -/
structure FaultRecord where
  kind : FaultKind
  origin : Word
deriving DecidableEq, Repr

/-- The state. `mem` holds the arrays `vram`, `eram`, `wram`, `oam`, `io`, `hram` and `ie` of R43, each byte under the
bus address it is stored at; the echo region has no storage of its own (R107; notes/assumptions/8.md).
`cycles`, the count the last completed step returned (60_exceptions.md R475), is the model's own field
(notes/assumptions/6.md). -/
structure State where
  regs : Regs
  sp : Word
  pc : Word
  ime : Bool
  eiDelay : Fin 3
  halted : Bool
  fault : Option FaultRecord
  overlay : Bool
  mem : Memory
  gpu : Gpu
  launch : Launch
  cycles : Nat
deriving DecidableEq, Repr

/-- Why a step stops. Each reason is a row of R450's table; it carries the record's info, `origin`, and `left`, the state
the fault leaves (R452), in which the record is latched (R451). All are the spec's own faults, so stopping on them
departs from nothing; each is safe. -/
inductive Fault where
  /-- A bus write to 0x0000-0x7FFF: raised by the stores, pushes and interrupt dispatch (20_memory.md R110). Safe. -/
  | bankSwitch (addr : Word) (value : Byte) (origin : Word) (left : State)
  /-- A bus write to 0xFEA0-0xFEFF with `P_UNUSABLE_WRITE = Fault`: raised by the same (R109). Safe. -/
  | unusableWrite (addr : Word) (value : Byte) (origin : Word) (left : State)
  /-- A bus write to 0xFF46 with `P_DMA_MODE = Fault`: raised by the same (R116). Safe. -/
  | oamDma (value : Byte) (origin : Word) (left : State)
  /-- A boundary with IME = 1 and an enabled interrupt pending in `FailLoudly` mode: raised by the step (R459). Safe. -/
  | interruptDispatch (pending : BitVec 5) (origin : Word) (left : State)
  /-- HALT in `FailLoudly` mode: raised by HALT (45_system.md R421). Safe. -/
  | halt (pc0 : Word) (origin : Word) (left : State)
  /-- HALT with IME = 0 and an enabled interrupt pending in `Standard` mode: raised by HALT (R421). Safe. -/
  | haltBug (pc0 : Word) (origin : Word) (left : State)
  /-- STOP: raised by STOP, always (R422). Safe. -/
  | stop (pc0 : Word) (origin : Word) (left : State)
  /-- Raised by nothing (R450): it can only be found latched in a state that no run reaches. Safe. -/
  | invariantViolation (what : String) (origin : Word) (left : State)
deriving DecidableEq, Repr

/-- The outcome of a fault with record `r` that leaves the state `left`. -/
def Fault.ofRecord (r : FaultRecord) (left : State) : Fault :=
  match r.kind with
  | .bankSwitch addr value => .bankSwitch addr value r.origin left
  | .unusableWrite addr value => .unusableWrite addr value r.origin left
  | .oamDma value => .oamDma value r.origin left
  | .interruptDispatch pending => .interruptDispatch pending r.origin left
  | .halt pc0 => .halt pc0 r.origin left
  | .haltBug pc0 => .haltBug pc0 r.origin left
  | .stop pc0 => .stop pc0 r.origin left
  | .invariantViolation what => .invariantViolation what r.origin left

/-- Why a step has no meaning. -/
inductive Refusal where
  /-- An instruction without a meaning yet: answered by `exec`'s refused arms only, of which there are none. Safe. -/
  | notModelled (mnemonic : String)
deriving DecidableEq, Repr

/-- `P_INIT` (00_scope.md R8): the reset values the source leaves unspecified. `mem` gives the RAM, I/O and IE bytes under
their bus addresses. -/
structure Init where
  regs : Regs
  sp : Word
  mem : Memory
deriving DecidableEq, Repr

/-- The all-zero `P_INIT`: 92_eei_decisions.md D29's choice for memory, and the model's for the registers
(DESIGN CHOICE, notes/assumptions/3.md and 4.md). -/
def Init.zero : Init := ⟨⟨0, 0, 0, 0, 0, 0, 0, 0⟩, 0, []⟩

/-- The registers the DMG boot program leaves (70_reset_and_hazards.md R522). -/
def Regs.postBoot : Regs :=
  { a := 0x01, f := 0xB0, b := 0x00, c := 0x13, d := 0x00, e := 0xD8, h := 0x01, l := 0x4D }

/-- The reset state (R521 to R527) for the launch inputs, `P_LAUNCH` and `P_INIT`. -/
def State.build (launch : Launch) (mode : LaunchMode) (init : Init) : State where
  regs := match mode with
    | .bootOverlay => { init.regs with f := init.regs.f &&& 0xF0 }
    | .postBoot => Regs.postBoot
  sp := match mode with
    | .bootOverlay => init.sp
    | .postBoot => 0xFFFE
  pc := match mode with
    | .bootOverlay => 0x0000
    | .postBoot => 0x0100
  ime := false
  eiDelay := 0
  halted := false
  fault := none
  overlay := match mode with
    | .bootOverlay => true
    | .postBoot => false
  mem := init.mem
  gpu := { mode := .oamRead, scanline := 0, acc := 0, frames := 0, frameSignals := 0 }
  launch := launch
  cycles := 0

/-- The machine after reset with the defaults of R8, and with the launch inputs that have no default all zero: cartridge,
boot image and `P_INIT` (DESIGN CHOICE, notes/assumptions/2.md, 3.md, 4.md). -/
def State.reset : State := State.build { cart := [], boot := [], params := {} } .bootOverlay Init.zero

end Sys2Proof.Machine
end

