-- ==== Sys2Proof/Machine/Flags.lean ====
section
/-! DEFINITION. The flags of F (10_state.md R33, R34) and every flag computation: the arithmetic, logic, rotate and shift
helpers of 41_alu8.md, 42_alu16.md and 43_rotate_shift_bit.md. Sums are exact integers, narrowed at the end
(00_scope.md R10). -/

namespace Sys2Proof.Machine

/-- The four flags. -/
structure Flags where
  z : Bool
  n : Bool
  h : Bool
  c : Bool
deriving DecidableEq, Repr

/-- F as a byte: Z, N, H, C in bits 7, 6, 5, 4, the low nibble 0 (R33, R34). -/
def Flags.pack (f : Flags) : Byte :=
  BitVec.ofBool f.z ++ BitVec.ofBool f.n ++ BitVec.ofBool f.h ++ BitVec.ofBool f.c ++ 0#4

/-- The flags in a byte written to F. -/
def Flags.ofByte (v : Byte) : Flags := ⟨v.getLsbD 7, v.getLsbD 6, v.getLsbD 5, v.getLsbD 4⟩

/-- What F stores of a byte written to it: `v[7:4] ++ 0b0000` (R33). -/
def storedF (v : Byte) : Byte := v &&& 0xF0

/-- The flags of a state. -/
def State.flags (s : State) : Flags := Flags.ofByte s.regs.f

/-- Write the four flags. -/
def State.setFlags (s : State) (f : Flags) : State := { s with regs := { s.regs with f := f.pack } }

/-! ## 8-bit arithmetic and logic (41_alu8.md) -/

/-- `Add8(a, b, cin)` (R250). -/
def add8 (a b : Byte) (cin : Bool) : Byte × Flags :=
  let s := a.toNat + b.toNat + cin.toNat
  let r : Byte := BitVec.ofNat 8 s
  (r, { z := r == 0, n := false, h := a.toNat % 16 + b.toNat % 16 + cin.toNat > 0xF, c := s > 0xFF })

/-- `Sub8(a, b, cin)` (R251). -/
def sub8 (a b : Byte) (cin : Bool) : Byte × Flags :=
  let d : Int := (a.toNat : Int) - b.toNat - cin.toNat
  let r : Byte := BitVec.ofInt 8 d
  (r, { z := r == 0, n := true, h := a.toNat % 16 < b.toNat % 16 + cin.toNat, c := a.toNat < b.toNat + cin.toNat })

/-- The flags of a logic operation with result `r`: `Z0h0` (R264, R267, R270). -/
def logicFlags (r : Byte) (h : Bool) : Flags := { z := r == 0, n := false, h := h, c := false }

/-- An ALU operation on A = `a` and the operand `v`, with the carry flag `cin`: the new A and the flags
(R252 to R275). CP gives back `a` (R273). -/
def alu (op : AluOp) (a v : Byte) (cin : Bool) : Byte × Flags :=
  match op with
  | .add => add8 a v false
  | .adc => add8 a v cin
  | .sub => sub8 a v false
  | .sbc => sub8 a v cin
  | .and => (a &&& v, logicFlags (a &&& v) true)
  | .xor => (a ^^^ v, logicFlags (a ^^^ v) false)
  | .or => (a ||| v, logicFlags (a ||| v) false)
  | .cp => (a, (sub8 a v false).2)

/-- INC of a byte: `Z0H-` (R276). -/
def inc8 (v : Byte) (f : Flags) : Byte × Flags :=
  (v + 1, { z := v + 1 == 0, n := false, h := v.toNat % 16 == 0xF, c := f.c })

/-- DEC of a byte: `Z1H-` (R278). -/
def dec8 (v : Byte) (f : Flags) : Byte × Flags :=
  (v - 1, { z := v - 1 == 0, n := true, h := v.toNat % 16 == 0, c := f.c })

/-- DAA's corrected value, before it is narrowed, and its carry: the sequential reading of R280 (90_conflicts.md C3). -/
def daaAdjust (a : Byte) (f : Flags) : Nat × Bool :=
  if f.n = false then
    let t := a.toNat
    let t := if f.h ∨ t % 16 > 9 then t + 0x06 else t
    if f.c ∨ t > 0x9F then (t + 0x60, true) else (t, false)
  else
    let t := a.toNat
    let t := if f.h then (t + 256 - 0x06) % 256 else t
    if f.c then ((t + 256 - 0x60) % 256, true) else (t, false)

/-- DAA: `Z-0C` (R280). -/
def daa (a : Byte) (f : Flags) : Byte × Flags :=
  let t := daaAdjust a f
  let r : Byte := BitVec.ofNat 8 t.1
  (r, { z := r == 0, n := f.n, h := false, c := t.2 })

/-! ## 16-bit arithmetic (42_alu16.md) -/

/-- ADD HL,rr: `-0HC`, half-carry out of bit 11 (R301, 90_conflicts.md C2, C5). -/
def addHl (hl v : Word) (f : Flags) : Word × Flags :=
  let s := hl.toNat + v.toNat
  (BitVec.ofNat 16 s, { z := f.z, n := false, h := hl.toNat % 0x1000 + v.toNat % 0x1000 > 0xFFF, c := s > 0xFFFF })

/-- `SpOffset(e)` (R300). -/
def spOffset (sp : Word) (e : Byte) : Word × Flags :=
  (sp + sext16 e,
    { z := false, n := false, h := sp.toNat % 16 + e.toNat % 16 > 0xF, c := sp.toNat % 256 + e.toNat > 0xFF })

/-! ## Rotates and shifts (43_rotate_shift_bit.md) -/

/-- A rotate or shift of `v` with the carry flag `cin`: the result and the outgoing carry (R335 to R350). -/
def rotate (op : RotOp) (v : Byte) (cin : Bool) : Byte × Bool :=
  match op with
  | .rlc => (v.extractLsb' 0 7 ++ BitVec.ofBool (v.getLsbD 7), v.getLsbD 7)
  | .rrc => (BitVec.ofBool (v.getLsbD 0) ++ v.extractLsb' 1 7, v.getLsbD 0)
  | .rl => (v.extractLsb' 0 7 ++ BitVec.ofBool cin, v.getLsbD 7)
  | .rr => (BitVec.ofBool cin ++ v.extractLsb' 1 7, v.getLsbD 0)
  | .sla => (v.extractLsb' 0 7 ++ 0#1, v.getLsbD 7)
  | .sra => (BitVec.ofBool (v.getLsbD 7) ++ v.extractLsb' 1 7, v.getLsbD 0)
  | .swap => (v.extractLsb' 0 4 ++ v.extractLsb' 4 4, false)
  | .srl => (0#1 ++ v.extractLsb' 1 7, v.getLsbD 0)

/-- The flags of a CB rotate or shift: `Z00C` (R335). -/
def rotateFlags (w : Byte) (c : Bool) : Flags := { z := w == 0, n := false, h := false, c := c }

/-- The flags of an accumulator rotate: `000C`, Z forced to 0 (R330, 92_eei_decisions.md D32). -/
def rotateAFlags (c : Bool) : Flags := { z := false, n := false, h := false, c := c }

/-- The flags of BIT y on `v`: `Z01-`, Z the complement of the tested bit (R351). -/
def bitFlags (y : BitVec 3) (v : Byte) (f : Flags) : Flags :=
  { z := !v.getLsbD y.toNat, n := false, h := true, c := f.c }

/-- `v[y] <- 0` (R353). -/
def resBit (y : BitVec 3) (v : Byte) : Byte := v &&& ~~~((1 : Byte) <<< y.toNat)

/-- `v[y] <- 1` (R355). -/
def setBit (y : BitVec 3) (v : Byte) : Byte := v ||| ((1 : Byte) <<< y.toNat)

end Sys2Proof.Machine
end

