-- ==== Sys2Proof/Machine/Ops.lean ====
section
/-! DEFINITION. The shared operations: memory, the bus (20_memory.md R100 to R122), raising a fault (60_exceptions.md R450
to R452), the stack (40_load.md R200, R201), taking an interrupt and returning from one (60_exceptions.md R455 to R463,
44_control.md R390), and running an instruction's semantics (30_encoding.md R158). -/

namespace Sys2Proof.Machine

/-! ## Outcomes -/

/-- The outcome of an instruction or a step. -/
abbrev Out := Host.Outcome State Fault Refusal

/-- What a piece of pseudocode does: it is done, or it raises a fault and leaves the state as it then is (R452). -/
inductive Effect where
  | done (s : State)
  | raise (kind : FaultKind) (left : State)
deriving DecidableEq, Repr

/-- Sequential pseudocode (00_scope.md section 5): nothing after a raise happens (R12). -/
def Effect.andThen (e : Effect) (k : State → Effect) : Effect :=
  match e with
  | .done s => k s
  | .raise kind left => .raise kind left

/-- Raising a fault (R451, R452): the record is latched in the state the raise point leaves. -/
def raiseFault (kind : FaultKind) (origin : Word) (left : State) : Out :=
  .fault (Fault.ofRecord ⟨kind, origin⟩ { left with fault := some ⟨kind, origin⟩ })

/-- The end of an instruction or a dispatch: the cycle count is returned, or the fault is raised with `origin` as the
record's `at` (R450, R451). -/
def conclude (origin : Word) (cycles : Nat) (e : Effect) : Out :=
  match e with
  | .done s => .next { s with cycles := cycles }
  | .raise kind left => raiseFault kind origin left

/-- Act on the next state, if there is one. -/
def mapNext (f : State → State) (o : Out) : Out :=
  match o with
  | .next s => .next (f s)
  | .fault r => .fault r
  | .refused r => .refused r

/-! ## Memory: a sparse list in canonical form -/

/-- What an address that is not listed reads as: 0x00 (92_eei_decisions.md D29; DESIGN CHOICE, notes/assumptions/4.md). -/
def Memory.fill : Byte := 0x00

/-- The byte at an address. -/
def Memory.read (m : Memory) (k : Nat) : Byte :=
  match m with
  | [] => Memory.fill
  | (a, v) :: rest => if a = k then v else Memory.read rest k

/-- Put a cell in front of cells with greater addresses, unless it holds the fill byte. -/
def Memory.cons (k : Nat) (v : Byte) (m : Memory) : Memory :=
  if v = Memory.fill then m else (k, v) :: m

/-- Store a byte, keeping the canonical form. -/
def Memory.write (m : Memory) (k : Nat) (v : Byte) : Memory :=
  match m with
  | [] => Memory.cons k v []
  | (a, w) :: rest =>
    if k < a then Memory.cons k v ((a, w) :: rest)
    else if k = a then Memory.cons k v rest
    else (a, w) :: Memory.write rest k v

/-- The canonical form from address `lo` up: addresses strictly rising, no listed fill byte. -/
def Memory.wfFrom (lo : Nat) (m : Memory) : Bool :=
  match m with
  | [] => true
  | (a, v) :: rest => decide (lo ≤ a) && v != Memory.fill && Memory.wfFrom (a + 1) rest

/-- The canonical form. -/
def Memory.wf (m : Memory) : Bool := Memory.wfFrom 0 m

/-! ## The address map (R101) -/

/-- The regions of R101; `boot` is the overlaid part of the fixed bank while the overlay is enabled (R105). -/
inductive Region where
  | boot | rom | vram | eram | wram | echo | oam | unusable | io | hram | ie
deriving DecidableEq, Repr

/-- The one region that contains an address. -/
def region (overlay : Bool) (a : Word) : Region :=
  let n := a.toNat
  if n < 0x100 then (if overlay then .boot else .rom)
  else if n < 0x8000 then .rom
  else if n < 0xA000 then .vram
  else if n < 0xC000 then .eram
  else if n < 0xE000 then .wram
  else if n < 0xFE00 then .echo
  else if n < 0xFEA0 then .oam
  else if n < 0xFF00 then .unusable
  else if n < 0xFF80 then .io
  else if n < 0xFFFF then .hram
  else .ie

/-- The storage an address of RAM, echo, I/O or IE names: an echo address names internal RAM (R107). -/
def home (a : Word) : Nat :=
  if 0xE000 ≤ a.toNat ∧ a.toNat < 0xFE00 then a.toNat - 0x2000 else a.toNat

/-- The keys `mem` may list: the storage of `vram`, `eram`, `wram`, `oam`, `io`, `hram` and `ie` (10_state.md R43). -/
def isStorage (k : Nat) : Bool :=
  (0x8000 ≤ k && k < 0xE000) || (0xFE00 ≤ k && k < 0xFEA0) || (0xFF00 ≤ k && k < 0x10000)

/-- Store a byte in the storage a bus address names. -/
def State.setByte (s : State) (a : Word) (v : Byte) : State := { s with mem := s.mem.write (home a) v }

/-- The stored byte that a bus address names. -/
def State.byte (s : State) (a : Word) : Byte := s.mem.read (home a)

/-- IF at 0xFF0F and IE at 0xFFFF (10_state.md R51). -/
def State.iflag (s : State) : Byte := s.byte 0xFF0F

def State.ie (s : State) : Byte := s.byte 0xFFFF

/-! ## Bus reads -/

/-- The STAT mode codes (10_state.md R45). -/
def Mode.code : Mode → Byte
  | .hblank => 0
  | .vblank => 1
  | .oamRead => 2
  | .vramRead => 3

/-- A read of STAT (20_memory.md R114). -/
def State.stat (s : State) : Byte :=
  (s.byte 0xFF41 &&& 0xF8) ||| (if s.gpu.scanline = (s.byte 0xFF45).toNat then 0x04 else 0x00) ||| s.gpu.mode.code

/-- A read of an I/O register (R111 to R117): LY and STAT are computed, the rest is storage. -/
def State.ioRead (s : State) (a : Word) : Byte :=
  if a = 0xFF44 then BitVec.ofNat 8 s.gpu.scanline
  else if a = 0xFF41 then s.stat
  else s.byte a

/-- `MemRead(a, 1)` (R102). It changes no state and never faults (R122, R453). -/
def State.read (s : State) (a : Word) : Byte :=
  match region s.overlay a with
  | .boot => s.launch.boot.read a.toNat
  | .rom => s.launch.cart.read a.toNat
  | .unusable => 0xFF
  | .io => s.ioRead a
  | .vram | .eram | .wram | .echo | .oam | .hram | .ie => s.byte a

/-- `MemRead(a, 2)` (R118). -/
def State.read16 (s : State) (a : Word) : Word := cat (s.read (a + 1)) (s.read a)

/-! ## Bus writes -/

/-- `oam[i] <- MemRead(page * 0x100 + i, 1)` for i in 0..n-1, in order (R116). -/
def State.copyOam (s : State) (page : Byte) (n : Nat) : State :=
  match n with
  | 0 => s
  | i + 1 =>
    let t := s.copyOam page i
    t.setByte (0xFE00 + BitVec.ofNat 16 i) (t.read (cat page 0 + BitVec.ofNat 16 i))

/-- A write of DMA, 0xFF46 (R116). -/
def State.writeDma (s : State) (v : Byte) : Effect :=
  match s.launch.params.dmaMode with
  | .fault => .raise (.oamDma v) s
  | .storage => .done (s.setByte 0xFF46 v)
  | .copy => .done ((s.setByte 0xFF46 v).copyOam v 160)

/-- A write of BOOT, 0xFF50 (R106, R117). -/
def State.writeBoot (s : State) (v : Byte) : State :=
  let t := s.setByte 0xFF50 v
  if v = 0x01 then { t with overlay := false } else t

/-- A write of an I/O register (R111 to R117). -/
def State.ioWrite (s : State) (a : Word) (v : Byte) : Effect :=
  if a = 0xFF04 then .done (s.setByte a 0x00)
  else if a = 0xFF44 then .done s
  else if a = 0xFF46 then s.writeDma v
  else if a = 0xFF50 then .done (s.writeBoot v)
  else .done (s.setByte a v)

/-- `MemWrite(a, 1, v)` (R103). -/
def State.write (s : State) (a : Word) (v : Byte) : Effect :=
  match region s.overlay a with
  | .boot | .rom => .raise (.bankSwitch a v) s
  | .unusable =>
    match s.launch.params.unusableWrite with
    | .fault => .raise (.unusableWrite a v) s
    | .ignore => .done s
  | .io => s.ioWrite a v
  | .vram | .eram | .wram | .echo | .oam | .hram | .ie => .done (s.setByte a v)

/-- `MemWrite(a, 2, v)`: the low byte at `a`, then the high byte at `a + 1` (R118). -/
def State.write16 (s : State) (a v : Word) : Effect :=
  (s.write a (loByte v)).andThen fun t => t.write (a + 1) (hiByte v)

/-! ## The stack (40_load.md R200, R201) -/

/-- `Push16(v)`: the high byte first. -/
def State.push16 (s : State) (v : Word) : Effect :=
  let s1 := { s with sp := s.sp - 1 }
  (s1.write s1.sp (hiByte v)).andThen fun s2 =>
    let s3 := { s2 with sp := s2.sp - 1 }
    s3.write s3.sp (loByte v)

/-- `Pop16()`: the value, and the state with SP moved. -/
def State.pop16 (s : State) : Word × State :=
  (cat (s.read (s.sp + 1)) (s.read s.sp), { s with sp := s.sp + 2 })

/-! ## Interrupts (60_exceptions.md R455 to R463) -/

/-- `pend = IE & IF & 0x1F` (R456). -/
def State.pending (s : State) : BitVec 5 := (s.ie &&& s.iflag).extractLsb' 0 5

/-- The lowest set bit of the pending set (R457). -/
def irqIndex (p : BitVec 5) : Nat :=
  if p.getLsbD 0 then 0
  else if p.getLsbD 1 then 1
  else if p.getLsbD 2 then 2
  else if p.getLsbD 3 then 3
  else 4

/-- The vector `0x0040 + 8 i` (R458). -/
def irqVector (i : Nat) : Word := 0x0040 + BitVec.ofNat 16 (8 * i)

/-- Taking an interrupt (R460): the request is cleared, IME is cleared, PC is pushed, and PC becomes the vector. -/
def State.dispatch (s : State) (p : BitVec 5) : Effect :=
  let s1 := s.setByte 0xFF0F (s.iflag &&& ~~~((1 : Byte) <<< irqIndex p))
  let s2 := { s1 with ime := false }
  (s2.push16 s2.pc).andThen fun s3 => .done { s3 with pc := irqVector (irqIndex p) }

/-- Returning from an interrupt (44_control.md R390): PC is popped, IME is set at once, a pending EI is cancelled. -/
def State.returnFromInterrupt (s : State) : Effect :=
  let r := s.pop16
  .done { r.2 with pc := r.1, ime := true, eiDelay := 0 }

/-! ## Running an instruction's semantics (30_encoding.md R158, R159) -/

/-- Steps (3), (4) and (6): PC is advanced by the length before the semantics `body` run, and the count is returned. -/
def instr (length cycles : Nat) (body : State → Effect) (s : State) : Out :=
  conclude s.pc cycles (body { s with pc := s.pc + BitVec.ofNat 16 length })

/-! ## Placing an instruction where the next fetch reads it -/

/-- Change the byte that a read of `a` returns, where that byte is stored: the boot image, the cartridge or `mem`.
This is the loader's work, not the bus's: it is no `MemWrite` (notes/assumptions/11.md). -/
def State.place (s : State) (a : Word) (v : Byte) : State :=
  match region s.overlay a with
  | .boot => { s with launch := { s.launch with boot := s.launch.boot.write a.toNat v } }
  | .rom => { s with launch := { s.launch with cart := s.launch.cart.write a.toNat v } }
  | .unusable => s
  | .vram | .eram | .wram | .echo | .oam | .io | .hram | .ie => s.setByte a v

/-- Place three bytes at PC. -/
def State.placeAtPc (s : State) (b : Byte × Byte × Byte) : State :=
  ((s.place s.pc b.1).place (s.pc + 1) b.2.1).place (s.pc + 2) b.2.2

end Sys2Proof.Machine
end

