-- ==== Sys2Proof/Machine/Operands.lean ====
section
/-! DEFINITION. The operand forms: pair views (10_state.md R31, R32), the `r`, `rr`, `rr_stk` and `cc` operands
(30_encoding.md R153, 43_rotate_shift_bit.md R334, 44_control.md R380), the I/O page address (R154), and the bodies the
instructions of a family share. -/

namespace Sys2Proof.Machine

/-! ## Pairs (R31, R32) -/

def Regs.af (r : Regs) : Word := cat r.a r.f
def Regs.bc (r : Regs) : Word := cat r.b r.c
def Regs.de (r : Regs) : Word := cat r.d r.e
def Regs.hl (r : Regs) : Word := cat r.h r.l

/-- `AF <- v`: the low nibble is discarded (R33). -/
def Regs.setAf (r : Regs) (v : Word) : Regs := { r with a := hiByte v, f := storedF (loByte v) }
def Regs.setBc (r : Regs) (v : Word) : Regs := { r with b := hiByte v, c := loByte v }
def Regs.setDe (r : Regs) (v : Word) : Regs := { r with d := hiByte v, e := loByte v }
def Regs.setHl (r : Regs) (v : Word) : Regs := { r with h := hiByte v, l := loByte v }

/-- A <- v. -/
def State.setA (s : State) (v : Byte) : State := { s with regs := { s.regs with a := v } }

/-- HL <- v. -/
def State.setHl (s : State) (v : Word) : State := { s with regs := s.regs.setHl v }

/-! ## The `r` operand: `Get` and `Put` (R334) -/

/-- `Get(z)`. -/
def State.get8 (s : State) (z : R8) : Byte :=
  match z with
  | .b => s.regs.b
  | .c => s.regs.c
  | .d => s.regs.d
  | .e => s.regs.e
  | .h => s.regs.h
  | .l => s.regs.l
  | .mem => s.read s.regs.hl
  | .a => s.regs.a

/-- `Put(z, v)`. -/
def State.put8 (s : State) (z : R8) (v : Byte) : Effect :=
  match z with
  | .b => .done { s with regs := { s.regs with b := v } }
  | .c => .done { s with regs := { s.regs with c := v } }
  | .d => .done { s with regs := { s.regs with d := v } }
  | .e => .done { s with regs := { s.regs with e := v } }
  | .h => .done { s with regs := { s.regs with h := v } }
  | .l => .done { s with regs := { s.regs with l := v } }
  | .mem => s.write s.regs.hl v
  | .a => .done { s with regs := { s.regs with a := v } }

/-! ## The `rr` and `rr_stk` operands -/

def State.get16 (s : State) (p : R16) : Word :=
  match p with
  | .bc => s.regs.bc
  | .de => s.regs.de
  | .hl => s.regs.hl
  | .sp => s.sp

def State.put16 (s : State) (p : R16) (v : Word) : State :=
  match p with
  | .bc => { s with regs := s.regs.setBc v }
  | .de => { s with regs := s.regs.setDe v }
  | .hl => { s with regs := s.regs.setHl v }
  | .sp => { s with sp := v }

def Regs.getStk (r : Regs) (p : RStk) : Word :=
  match p with
  | .bc => r.bc
  | .de => r.de
  | .hl => r.hl
  | .af => r.af

def Regs.putStk (r : Regs) (p : RStk) (v : Word) : Regs :=
  match p with
  | .bc => r.setBc v
  | .de => r.setDe v
  | .hl => r.setHl v
  | .af => r.setAf v

/-! ## Conditions and addresses -/

/-- Whether a condition holds (R380). -/
def condHolds (cc : Cond) (f : Flags) : Bool :=
  match cc with
  | .nz => !f.z
  | .z => f.z
  | .nc => !f.c
  | .c => f.c

/-- The I/O page address `0xFF00 + v` of LDH and of LD A,(C), LD (C),A (R154, R217 to R220). -/
def ioPage (v : Byte) : Word := 0xFF00 + zext16 v

/-! ## Bodies shared by a family -/

/-- LD between two `r` operands (R202, R203, R204). -/
def ld (y z : R8) (s : State) : Effect := s.put8 y (s.get8 z)

/-- LD of an immediate into an `r` operand (R205, R206). -/
def ldImm (y : R8) (n : Byte) (s : State) : Effect := s.put8 y n

/-- `A <- MemRead(addr, 1)` (R207, R208, R215, R217, R219). -/
def loadA (addr : State → Word) (s : State) : Effect := .done (s.setA (s.read (addr s)))

/-- `MemWrite(addr, 1, A)` (R209, R210, R216, R218, R220). -/
def storeA (addr : State → Word) (s : State) : Effect := s.write (addr s) s.regs.a

/-- LD A,(HL+) and LD A,(HL-): `a <- HL; A <- MemRead(a, 1); HL <- a + delta` (R213, R214). -/
def loadAStep (delta : Word) (s : State) : Effect :=
  let a := s.regs.hl
  .done ((s.setA (s.read a)).setHl (a + delta))

/-- LD (HL+),A and LD (HL-),A: `a <- HL; MemWrite(a, 1, A); HL <- a + delta` (R211, R212). -/
def storeAStep (delta : Word) (s : State) : Effect :=
  let a := s.regs.hl
  (s.write a s.regs.a).andThen fun t => .done (t.setHl (a + delta))

/-- LD rr,n16 (R221). -/
def ldPair (p : R16) (nn : Word) (s : State) : Effect := .done (s.put16 p nn)

/-- PUSH rr (R224). -/
def push (p : RStk) (s : State) : Effect := s.push16 (s.regs.getStk p)

/-- POP rr and POP AF (R225, R226). -/
def pop (p : RStk) (s : State) : Effect :=
  let r := s.pop16
  .done { r.2 with regs := r.2.regs.putStk p r.1 }

/-- An ALU operation on A and the value `v` (R252 to R275). -/
def aluValue (op : AluOp) (v : Byte) (s : State) : Effect :=
  let r := alu op s.regs.a v s.flags.c
  .done ((s.setA r.1).setFlags r.2)

/-- An ALU operation on A and an `r` operand. -/
def aluOperand (op : AluOp) (z : R8) (s : State) : Effect := aluValue op (s.get8 z) s

/-- A read-modify-write of an `r` operand: read once, write once, then the flags (R276 to R279, R334). -/
def modify (y : R8) (f : Byte → Flags → Byte × Flags) (s : State) : Effect :=
  let r := f (s.get8 y) s.flags
  (s.put8 y r.1).andThen fun t => .done (t.setFlags r.2)

/-- A rotate or shift of an `r` operand (R335 to R350). -/
def rotateOperand (op : RotOp) (z : R8) (s : State) : Effect :=
  modify z (fun v f => let r := rotate op v f.c; (r.1, rotateFlags r.1 r.2)) s

/-- An accumulator rotate (R330 to R333). -/
def rotateA (op : RotOp) (s : State) : Effect :=
  let r := rotate op s.regs.a s.flags.c
  .done ((s.setA r.1).setFlags (rotateAFlags r.2))

/-- BIT y on an `r` operand (R351, R352). -/
def testBit (y : BitVec 3) (z : R8) (s : State) : Effect := .done (s.setFlags (bitFlags y (s.get8 z) s.flags))

/-- RES y on an `r` operand: no flag changes (R353, R354). -/
def resetBit (y : BitVec 3) (z : R8) (s : State) : Effect := s.put8 z (resBit y (s.get8 z))

/-- SET y on an `r` operand: no flag changes (R355, R356). -/
def setBitOf (y : BitVec 3) (z : R8) (s : State) : Effect := s.put8 z (setBit y (s.get8 z))

/-- ADD HL,rr (R301). -/
def addToHl (p : R16) (s : State) : Effect :=
  let r := addHl s.regs.hl (s.get16 p) s.flags
  .done ((s.setHl r.1).setFlags r.2)

/-- INC rr (R302). -/
def incPair (p : R16) (s : State) : Effect := .done (s.put16 p (s.get16 p + 1))

/-- DEC rr (R303). -/
def decPair (p : R16) (s : State) : Effect := .done (s.put16 p (s.get16 p - 1))

/-- `PC <- target`. -/
def jump (target : Word) (s : State) : Effect := .done { s with pc := target }

/-- A relative jump from the next instruction (R384). -/
def jumpRel (e : Byte) (s : State) : Effect := .done { s with pc := s.pc + sext16 e }

/-- `Push16(PC); PC <- target` (R386, R391). -/
def call (target : Word) (s : State) : Effect :=
  (s.push16 s.pc).andThen fun t => .done { t with pc := target }

/-- `PC <- Pop16()` (R388). -/
def ret (s : State) : Effect :=
  let r := s.pop16
  .done { r.2 with pc := r.1 }

/-- A conditional transfer: `body` and `taken` cycles where the condition holds on the flags, else nothing and
`cycles` (R158, R159, R380). -/
def instrIf (cc : Cond) (length cycles taken : Nat) (body : State → Effect) (s : State) : Out :=
  if condHolds cc s.flags then instr length taken body s else instr length cycles .done s

end Sys2Proof.Machine
end

