-- ==== Sys2Proof/Machine/Alu16.lean ====
section
/-! DEFINITION. 16-bit arithmetic (42_alu16.md R301 to R305).
Each meaning gives its row's length and cycles (opcode_table.json) to `instr` or `instrIf`, and its rule's pseudocode as
the body. -/

namespace Sys2Proof.Machine

/-! R301: ADD HL,rr. -/

def execAddHlBc (s : State) : Out := instr 1 8 (addToHl .bc) s
def execAddHlDe (s : State) : Out := instr 1 8 (addToHl .de) s
def execAddHlHl (s : State) : Out := instr 1 8 (addToHl .hl) s
def execAddHlSp (s : State) : Out := instr 1 8 (addToHl .sp) s

/-! R302: INC rr. -/

def execIncBc (s : State) : Out := instr 1 8 (incPair .bc) s
def execIncDe (s : State) : Out := instr 1 8 (incPair .de) s
def execIncHl (s : State) : Out := instr 1 8 (incPair .hl) s
def execIncSp (s : State) : Out := instr 1 8 (incPair .sp) s

/-! R303: DEC rr. -/

def execDecBc (s : State) : Out := instr 1 8 (decPair .bc) s
def execDecDe (s : State) : Out := instr 1 8 (decPair .de) s
def execDecHl (s : State) : Out := instr 1 8 (decPair .hl) s
def execDecSp (s : State) : Out := instr 1 8 (decPair .sp) s

/-! R304: ADD SP,e8. -/

def execAddSpE8 (e : Byte) (s : State) : Out := instr 2 16 (fun t => let r := spOffset t.sp e; .done ({ t with sp := r.1 }.setFlags r.2)) s

/-! R305: LD HL,SP+e8. -/

def execLdHlSpE8 (e : Byte) (s : State) : Out := instr 2 12 (fun t => let r := spOffset t.sp e; .done ((t.setHl r.1).setFlags r.2)) s

end Sys2Proof.Machine
end

