-- ==== Sys2Proof/Machine/Alu8.lean ====
section
/-! DEFINITION. 8-bit arithmetic and logic (41_alu8.md R252 to R283).
Each meaning gives its row's length and cycles (opcode_table.json) to `instr` or `instrIf`, and its rule's pseudocode as
the body. -/

namespace Sys2Proof.Machine

/-! R252: ADD A,r. -/

def execAddAB (s : State) : Out := instr 1 4 (aluOperand .add .b) s
def execAddAC (s : State) : Out := instr 1 4 (aluOperand .add .c) s
def execAddAD (s : State) : Out := instr 1 4 (aluOperand .add .d) s
def execAddAE (s : State) : Out := instr 1 4 (aluOperand .add .e) s
def execAddAH (s : State) : Out := instr 1 4 (aluOperand .add .h) s
def execAddAL (s : State) : Out := instr 1 4 (aluOperand .add .l) s
def execAddAA (s : State) : Out := instr 1 4 (aluOperand .add .a) s

/-! R253: ADD A,(HL). -/

def execAddAAtHl (s : State) : Out := instr 1 8 (aluOperand .add .mem) s

/-! R254: ADD A,n8. -/

def execAddAN8 (n : Byte) (s : State) : Out := instr 2 8 (aluValue .add n) s

/-! R255: ADC A,r. -/

def execAdcAB (s : State) : Out := instr 1 4 (aluOperand .adc .b) s
def execAdcAC (s : State) : Out := instr 1 4 (aluOperand .adc .c) s
def execAdcAD (s : State) : Out := instr 1 4 (aluOperand .adc .d) s
def execAdcAE (s : State) : Out := instr 1 4 (aluOperand .adc .e) s
def execAdcAH (s : State) : Out := instr 1 4 (aluOperand .adc .h) s
def execAdcAL (s : State) : Out := instr 1 4 (aluOperand .adc .l) s
def execAdcAA (s : State) : Out := instr 1 4 (aluOperand .adc .a) s

/-! R256: ADC A,(HL). -/

def execAdcAAtHl (s : State) : Out := instr 1 8 (aluOperand .adc .mem) s

/-! R257: ADC A,n8. -/

def execAdcAN8 (n : Byte) (s : State) : Out := instr 2 8 (aluValue .adc n) s

/-! R258: SUB r. -/

def execSubB (s : State) : Out := instr 1 4 (aluOperand .sub .b) s
def execSubC (s : State) : Out := instr 1 4 (aluOperand .sub .c) s
def execSubD (s : State) : Out := instr 1 4 (aluOperand .sub .d) s
def execSubE (s : State) : Out := instr 1 4 (aluOperand .sub .e) s
def execSubH (s : State) : Out := instr 1 4 (aluOperand .sub .h) s
def execSubL (s : State) : Out := instr 1 4 (aluOperand .sub .l) s
def execSubA (s : State) : Out := instr 1 4 (aluOperand .sub .a) s

/-! R259: SUB (HL). -/

def execSubAtHl (s : State) : Out := instr 1 8 (aluOperand .sub .mem) s

/-! R260: SUB n8. -/

def execSubN8 (n : Byte) (s : State) : Out := instr 2 8 (aluValue .sub n) s

/-! R261: SBC A,r. -/

def execSbcAB (s : State) : Out := instr 1 4 (aluOperand .sbc .b) s
def execSbcAC (s : State) : Out := instr 1 4 (aluOperand .sbc .c) s
def execSbcAD (s : State) : Out := instr 1 4 (aluOperand .sbc .d) s
def execSbcAE (s : State) : Out := instr 1 4 (aluOperand .sbc .e) s
def execSbcAH (s : State) : Out := instr 1 4 (aluOperand .sbc .h) s
def execSbcAL (s : State) : Out := instr 1 4 (aluOperand .sbc .l) s
def execSbcAA (s : State) : Out := instr 1 4 (aluOperand .sbc .a) s

/-! R262: SBC A,(HL). -/

def execSbcAAtHl (s : State) : Out := instr 1 8 (aluOperand .sbc .mem) s

/-! R263: SBC A,n8. -/

def execSbcAN8 (n : Byte) (s : State) : Out := instr 2 8 (aluValue .sbc n) s

/-! R264: AND r. -/

def execAndB (s : State) : Out := instr 1 4 (aluOperand .and .b) s
def execAndC (s : State) : Out := instr 1 4 (aluOperand .and .c) s
def execAndD (s : State) : Out := instr 1 4 (aluOperand .and .d) s
def execAndE (s : State) : Out := instr 1 4 (aluOperand .and .e) s
def execAndH (s : State) : Out := instr 1 4 (aluOperand .and .h) s
def execAndL (s : State) : Out := instr 1 4 (aluOperand .and .l) s
def execAndA (s : State) : Out := instr 1 4 (aluOperand .and .a) s

/-! R265: AND (HL). -/

def execAndAtHl (s : State) : Out := instr 1 8 (aluOperand .and .mem) s

/-! R266: AND n8. -/

def execAndN8 (n : Byte) (s : State) : Out := instr 2 8 (aluValue .and n) s

/-! R267: XOR r. -/

def execXorB (s : State) : Out := instr 1 4 (aluOperand .xor .b) s
def execXorC (s : State) : Out := instr 1 4 (aluOperand .xor .c) s
def execXorD (s : State) : Out := instr 1 4 (aluOperand .xor .d) s
def execXorE (s : State) : Out := instr 1 4 (aluOperand .xor .e) s
def execXorH (s : State) : Out := instr 1 4 (aluOperand .xor .h) s
def execXorL (s : State) : Out := instr 1 4 (aluOperand .xor .l) s
def execXorA (s : State) : Out := instr 1 4 (aluOperand .xor .a) s

/-! R268: XOR (HL). -/

def execXorAtHl (s : State) : Out := instr 1 8 (aluOperand .xor .mem) s

/-! R269: XOR n8. -/

def execXorN8 (n : Byte) (s : State) : Out := instr 2 8 (aluValue .xor n) s

/-! R270: OR r. -/

def execOrB (s : State) : Out := instr 1 4 (aluOperand .or .b) s
def execOrC (s : State) : Out := instr 1 4 (aluOperand .or .c) s
def execOrD (s : State) : Out := instr 1 4 (aluOperand .or .d) s
def execOrE (s : State) : Out := instr 1 4 (aluOperand .or .e) s
def execOrH (s : State) : Out := instr 1 4 (aluOperand .or .h) s
def execOrL (s : State) : Out := instr 1 4 (aluOperand .or .l) s
def execOrA (s : State) : Out := instr 1 4 (aluOperand .or .a) s

/-! R271: OR (HL). -/

def execOrAtHl (s : State) : Out := instr 1 8 (aluOperand .or .mem) s

/-! R272: OR n8. -/

def execOrN8 (n : Byte) (s : State) : Out := instr 2 8 (aluValue .or n) s

/-! R273: CP r. -/

def execCpB (s : State) : Out := instr 1 4 (aluOperand .cp .b) s
def execCpC (s : State) : Out := instr 1 4 (aluOperand .cp .c) s
def execCpD (s : State) : Out := instr 1 4 (aluOperand .cp .d) s
def execCpE (s : State) : Out := instr 1 4 (aluOperand .cp .e) s
def execCpH (s : State) : Out := instr 1 4 (aluOperand .cp .h) s
def execCpL (s : State) : Out := instr 1 4 (aluOperand .cp .l) s
def execCpA (s : State) : Out := instr 1 4 (aluOperand .cp .a) s

/-! R274: CP (HL). -/

def execCpAtHl (s : State) : Out := instr 1 8 (aluOperand .cp .mem) s

/-! R275: CP n8. -/

def execCpN8 (n : Byte) (s : State) : Out := instr 2 8 (aluValue .cp n) s

/-! R276: INC r. -/

def execIncB (s : State) : Out := instr 1 4 (modify .b inc8) s
def execIncC (s : State) : Out := instr 1 4 (modify .c inc8) s
def execIncD (s : State) : Out := instr 1 4 (modify .d inc8) s
def execIncE (s : State) : Out := instr 1 4 (modify .e inc8) s
def execIncH (s : State) : Out := instr 1 4 (modify .h inc8) s
def execIncL (s : State) : Out := instr 1 4 (modify .l inc8) s
def execIncA (s : State) : Out := instr 1 4 (modify .a inc8) s

/-! R277: INC (HL). -/

def execIncAtHl (s : State) : Out := instr 1 12 (modify .mem inc8) s

/-! R278: DEC r. -/

def execDecB (s : State) : Out := instr 1 4 (modify .b dec8) s
def execDecC (s : State) : Out := instr 1 4 (modify .c dec8) s
def execDecD (s : State) : Out := instr 1 4 (modify .d dec8) s
def execDecE (s : State) : Out := instr 1 4 (modify .e dec8) s
def execDecH (s : State) : Out := instr 1 4 (modify .h dec8) s
def execDecL (s : State) : Out := instr 1 4 (modify .l dec8) s
def execDecA (s : State) : Out := instr 1 4 (modify .a dec8) s

/-! R279: DEC (HL). -/

def execDecAtHl (s : State) : Out := instr 1 12 (modify .mem dec8) s

/-! R280: DAA (decimal adjust A after a BCD add or subtract). -/

def execDaa (s : State) : Out := instr 1 4 (fun t => let r := Machine.daa t.regs.a t.flags; .done ((t.setA r.1).setFlags r.2)) s

/-! R281: CPL (complement A). -/

def execCpl (s : State) : Out := instr 1 4 (fun t => .done ((t.setA (t.regs.a ^^^ 0xFF)).setFlags { t.flags with n := true, h := true })) s

/-! R282: SCF (set carry flag). -/

def execScf (s : State) : Out := instr 1 4 (fun t => .done (t.setFlags { t.flags with n := false, h := false, c := true })) s

/-! R283: CCF (complement carry flag). -/

def execCcf (s : State) : Out := instr 1 4 (fun t => .done (t.setFlags { t.flags with n := false, h := false, c := !t.flags.c })) s

end Sys2Proof.Machine
end

