-- ==== Sys2Proof/Machine/Bit.lean ====
section
/-! DEFINITION. BIT, RES and SET (43_rotate_shift_bit.md R351 to R356).
Each meaning gives its row's length and cycles (opcode_table.json) to `instr` or `instrIf`, and its rule's pseudocode as
the body. -/

namespace Sys2Proof.Machine

/-! R351: BIT b,r (test bit, register). -/

def execBit0B (s : State) : Out := instr 2 8 (testBit 0 .b) s
def execBit0C (s : State) : Out := instr 2 8 (testBit 0 .c) s
def execBit0D (s : State) : Out := instr 2 8 (testBit 0 .d) s
def execBit0E (s : State) : Out := instr 2 8 (testBit 0 .e) s
def execBit0H (s : State) : Out := instr 2 8 (testBit 0 .h) s
def execBit0L (s : State) : Out := instr 2 8 (testBit 0 .l) s
def execBit0A (s : State) : Out := instr 2 8 (testBit 0 .a) s
def execBit1B (s : State) : Out := instr 2 8 (testBit 1 .b) s
def execBit1C (s : State) : Out := instr 2 8 (testBit 1 .c) s
def execBit1D (s : State) : Out := instr 2 8 (testBit 1 .d) s
def execBit1E (s : State) : Out := instr 2 8 (testBit 1 .e) s
def execBit1H (s : State) : Out := instr 2 8 (testBit 1 .h) s
def execBit1L (s : State) : Out := instr 2 8 (testBit 1 .l) s
def execBit1A (s : State) : Out := instr 2 8 (testBit 1 .a) s
def execBit2B (s : State) : Out := instr 2 8 (testBit 2 .b) s
def execBit2C (s : State) : Out := instr 2 8 (testBit 2 .c) s
def execBit2D (s : State) : Out := instr 2 8 (testBit 2 .d) s
def execBit2E (s : State) : Out := instr 2 8 (testBit 2 .e) s
def execBit2H (s : State) : Out := instr 2 8 (testBit 2 .h) s
def execBit2L (s : State) : Out := instr 2 8 (testBit 2 .l) s
def execBit2A (s : State) : Out := instr 2 8 (testBit 2 .a) s
def execBit3B (s : State) : Out := instr 2 8 (testBit 3 .b) s
def execBit3C (s : State) : Out := instr 2 8 (testBit 3 .c) s
def execBit3D (s : State) : Out := instr 2 8 (testBit 3 .d) s
def execBit3E (s : State) : Out := instr 2 8 (testBit 3 .e) s
def execBit3H (s : State) : Out := instr 2 8 (testBit 3 .h) s
def execBit3L (s : State) : Out := instr 2 8 (testBit 3 .l) s
def execBit3A (s : State) : Out := instr 2 8 (testBit 3 .a) s
def execBit4B (s : State) : Out := instr 2 8 (testBit 4 .b) s
def execBit4C (s : State) : Out := instr 2 8 (testBit 4 .c) s
def execBit4D (s : State) : Out := instr 2 8 (testBit 4 .d) s
def execBit4E (s : State) : Out := instr 2 8 (testBit 4 .e) s
def execBit4H (s : State) : Out := instr 2 8 (testBit 4 .h) s
def execBit4L (s : State) : Out := instr 2 8 (testBit 4 .l) s
def execBit4A (s : State) : Out := instr 2 8 (testBit 4 .a) s
def execBit5B (s : State) : Out := instr 2 8 (testBit 5 .b) s
def execBit5C (s : State) : Out := instr 2 8 (testBit 5 .c) s
def execBit5D (s : State) : Out := instr 2 8 (testBit 5 .d) s
def execBit5E (s : State) : Out := instr 2 8 (testBit 5 .e) s
def execBit5H (s : State) : Out := instr 2 8 (testBit 5 .h) s
def execBit5L (s : State) : Out := instr 2 8 (testBit 5 .l) s
def execBit5A (s : State) : Out := instr 2 8 (testBit 5 .a) s
def execBit6B (s : State) : Out := instr 2 8 (testBit 6 .b) s
def execBit6C (s : State) : Out := instr 2 8 (testBit 6 .c) s
def execBit6D (s : State) : Out := instr 2 8 (testBit 6 .d) s
def execBit6E (s : State) : Out := instr 2 8 (testBit 6 .e) s
def execBit6H (s : State) : Out := instr 2 8 (testBit 6 .h) s
def execBit6L (s : State) : Out := instr 2 8 (testBit 6 .l) s
def execBit6A (s : State) : Out := instr 2 8 (testBit 6 .a) s
def execBit7B (s : State) : Out := instr 2 8 (testBit 7 .b) s
def execBit7C (s : State) : Out := instr 2 8 (testBit 7 .c) s
def execBit7D (s : State) : Out := instr 2 8 (testBit 7 .d) s
def execBit7E (s : State) : Out := instr 2 8 (testBit 7 .e) s
def execBit7H (s : State) : Out := instr 2 8 (testBit 7 .h) s
def execBit7L (s : State) : Out := instr 2 8 (testBit 7 .l) s
def execBit7A (s : State) : Out := instr 2 8 (testBit 7 .a) s

/-! R352: BIT b,(HL) (test bit in memory). -/

def execBit0AtHl (s : State) : Out := instr 2 12 (testBit 0 .mem) s
def execBit1AtHl (s : State) : Out := instr 2 12 (testBit 1 .mem) s
def execBit2AtHl (s : State) : Out := instr 2 12 (testBit 2 .mem) s
def execBit3AtHl (s : State) : Out := instr 2 12 (testBit 3 .mem) s
def execBit4AtHl (s : State) : Out := instr 2 12 (testBit 4 .mem) s
def execBit5AtHl (s : State) : Out := instr 2 12 (testBit 5 .mem) s
def execBit6AtHl (s : State) : Out := instr 2 12 (testBit 6 .mem) s
def execBit7AtHl (s : State) : Out := instr 2 12 (testBit 7 .mem) s

/-! R353: RES b,r (reset bit, register). -/

def execRes0B (s : State) : Out := instr 2 8 (resetBit 0 .b) s
def execRes0C (s : State) : Out := instr 2 8 (resetBit 0 .c) s
def execRes0D (s : State) : Out := instr 2 8 (resetBit 0 .d) s
def execRes0E (s : State) : Out := instr 2 8 (resetBit 0 .e) s
def execRes0H (s : State) : Out := instr 2 8 (resetBit 0 .h) s
def execRes0L (s : State) : Out := instr 2 8 (resetBit 0 .l) s
def execRes0A (s : State) : Out := instr 2 8 (resetBit 0 .a) s
def execRes1B (s : State) : Out := instr 2 8 (resetBit 1 .b) s
def execRes1C (s : State) : Out := instr 2 8 (resetBit 1 .c) s
def execRes1D (s : State) : Out := instr 2 8 (resetBit 1 .d) s
def execRes1E (s : State) : Out := instr 2 8 (resetBit 1 .e) s
def execRes1H (s : State) : Out := instr 2 8 (resetBit 1 .h) s
def execRes1L (s : State) : Out := instr 2 8 (resetBit 1 .l) s
def execRes1A (s : State) : Out := instr 2 8 (resetBit 1 .a) s
def execRes2B (s : State) : Out := instr 2 8 (resetBit 2 .b) s
def execRes2C (s : State) : Out := instr 2 8 (resetBit 2 .c) s
def execRes2D (s : State) : Out := instr 2 8 (resetBit 2 .d) s
def execRes2E (s : State) : Out := instr 2 8 (resetBit 2 .e) s
def execRes2H (s : State) : Out := instr 2 8 (resetBit 2 .h) s
def execRes2L (s : State) : Out := instr 2 8 (resetBit 2 .l) s
def execRes2A (s : State) : Out := instr 2 8 (resetBit 2 .a) s
def execRes3B (s : State) : Out := instr 2 8 (resetBit 3 .b) s
def execRes3C (s : State) : Out := instr 2 8 (resetBit 3 .c) s
def execRes3D (s : State) : Out := instr 2 8 (resetBit 3 .d) s
def execRes3E (s : State) : Out := instr 2 8 (resetBit 3 .e) s
def execRes3H (s : State) : Out := instr 2 8 (resetBit 3 .h) s
def execRes3L (s : State) : Out := instr 2 8 (resetBit 3 .l) s
def execRes3A (s : State) : Out := instr 2 8 (resetBit 3 .a) s
def execRes4B (s : State) : Out := instr 2 8 (resetBit 4 .b) s
def execRes4C (s : State) : Out := instr 2 8 (resetBit 4 .c) s
def execRes4D (s : State) : Out := instr 2 8 (resetBit 4 .d) s
def execRes4E (s : State) : Out := instr 2 8 (resetBit 4 .e) s
def execRes4H (s : State) : Out := instr 2 8 (resetBit 4 .h) s
def execRes4L (s : State) : Out := instr 2 8 (resetBit 4 .l) s
def execRes4A (s : State) : Out := instr 2 8 (resetBit 4 .a) s
def execRes5B (s : State) : Out := instr 2 8 (resetBit 5 .b) s
def execRes5C (s : State) : Out := instr 2 8 (resetBit 5 .c) s
def execRes5D (s : State) : Out := instr 2 8 (resetBit 5 .d) s
def execRes5E (s : State) : Out := instr 2 8 (resetBit 5 .e) s
def execRes5H (s : State) : Out := instr 2 8 (resetBit 5 .h) s
def execRes5L (s : State) : Out := instr 2 8 (resetBit 5 .l) s
def execRes5A (s : State) : Out := instr 2 8 (resetBit 5 .a) s
def execRes6B (s : State) : Out := instr 2 8 (resetBit 6 .b) s
def execRes6C (s : State) : Out := instr 2 8 (resetBit 6 .c) s
def execRes6D (s : State) : Out := instr 2 8 (resetBit 6 .d) s
def execRes6E (s : State) : Out := instr 2 8 (resetBit 6 .e) s
def execRes6H (s : State) : Out := instr 2 8 (resetBit 6 .h) s
def execRes6L (s : State) : Out := instr 2 8 (resetBit 6 .l) s
def execRes6A (s : State) : Out := instr 2 8 (resetBit 6 .a) s
def execRes7B (s : State) : Out := instr 2 8 (resetBit 7 .b) s
def execRes7C (s : State) : Out := instr 2 8 (resetBit 7 .c) s
def execRes7D (s : State) : Out := instr 2 8 (resetBit 7 .d) s
def execRes7E (s : State) : Out := instr 2 8 (resetBit 7 .e) s
def execRes7H (s : State) : Out := instr 2 8 (resetBit 7 .h) s
def execRes7L (s : State) : Out := instr 2 8 (resetBit 7 .l) s
def execRes7A (s : State) : Out := instr 2 8 (resetBit 7 .a) s

/-! R354: RES b,(HL) (reset bit in memory). -/

def execRes0AtHl (s : State) : Out := instr 2 16 (resetBit 0 .mem) s
def execRes1AtHl (s : State) : Out := instr 2 16 (resetBit 1 .mem) s
def execRes2AtHl (s : State) : Out := instr 2 16 (resetBit 2 .mem) s
def execRes3AtHl (s : State) : Out := instr 2 16 (resetBit 3 .mem) s
def execRes4AtHl (s : State) : Out := instr 2 16 (resetBit 4 .mem) s
def execRes5AtHl (s : State) : Out := instr 2 16 (resetBit 5 .mem) s
def execRes6AtHl (s : State) : Out := instr 2 16 (resetBit 6 .mem) s
def execRes7AtHl (s : State) : Out := instr 2 16 (resetBit 7 .mem) s

/-! R355: SET b,r (set bit, register). -/

def execSet0B (s : State) : Out := instr 2 8 (setBitOf 0 .b) s
def execSet0C (s : State) : Out := instr 2 8 (setBitOf 0 .c) s
def execSet0D (s : State) : Out := instr 2 8 (setBitOf 0 .d) s
def execSet0E (s : State) : Out := instr 2 8 (setBitOf 0 .e) s
def execSet0H (s : State) : Out := instr 2 8 (setBitOf 0 .h) s
def execSet0L (s : State) : Out := instr 2 8 (setBitOf 0 .l) s
def execSet0A (s : State) : Out := instr 2 8 (setBitOf 0 .a) s
def execSet1B (s : State) : Out := instr 2 8 (setBitOf 1 .b) s
def execSet1C (s : State) : Out := instr 2 8 (setBitOf 1 .c) s
def execSet1D (s : State) : Out := instr 2 8 (setBitOf 1 .d) s
def execSet1E (s : State) : Out := instr 2 8 (setBitOf 1 .e) s
def execSet1H (s : State) : Out := instr 2 8 (setBitOf 1 .h) s
def execSet1L (s : State) : Out := instr 2 8 (setBitOf 1 .l) s
def execSet1A (s : State) : Out := instr 2 8 (setBitOf 1 .a) s
def execSet2B (s : State) : Out := instr 2 8 (setBitOf 2 .b) s
def execSet2C (s : State) : Out := instr 2 8 (setBitOf 2 .c) s
def execSet2D (s : State) : Out := instr 2 8 (setBitOf 2 .d) s
def execSet2E (s : State) : Out := instr 2 8 (setBitOf 2 .e) s
def execSet2H (s : State) : Out := instr 2 8 (setBitOf 2 .h) s
def execSet2L (s : State) : Out := instr 2 8 (setBitOf 2 .l) s
def execSet2A (s : State) : Out := instr 2 8 (setBitOf 2 .a) s
def execSet3B (s : State) : Out := instr 2 8 (setBitOf 3 .b) s
def execSet3C (s : State) : Out := instr 2 8 (setBitOf 3 .c) s
def execSet3D (s : State) : Out := instr 2 8 (setBitOf 3 .d) s
def execSet3E (s : State) : Out := instr 2 8 (setBitOf 3 .e) s
def execSet3H (s : State) : Out := instr 2 8 (setBitOf 3 .h) s
def execSet3L (s : State) : Out := instr 2 8 (setBitOf 3 .l) s
def execSet3A (s : State) : Out := instr 2 8 (setBitOf 3 .a) s
def execSet4B (s : State) : Out := instr 2 8 (setBitOf 4 .b) s
def execSet4C (s : State) : Out := instr 2 8 (setBitOf 4 .c) s
def execSet4D (s : State) : Out := instr 2 8 (setBitOf 4 .d) s
def execSet4E (s : State) : Out := instr 2 8 (setBitOf 4 .e) s
def execSet4H (s : State) : Out := instr 2 8 (setBitOf 4 .h) s
def execSet4L (s : State) : Out := instr 2 8 (setBitOf 4 .l) s
def execSet4A (s : State) : Out := instr 2 8 (setBitOf 4 .a) s
def execSet5B (s : State) : Out := instr 2 8 (setBitOf 5 .b) s
def execSet5C (s : State) : Out := instr 2 8 (setBitOf 5 .c) s
def execSet5D (s : State) : Out := instr 2 8 (setBitOf 5 .d) s
def execSet5E (s : State) : Out := instr 2 8 (setBitOf 5 .e) s
def execSet5H (s : State) : Out := instr 2 8 (setBitOf 5 .h) s
def execSet5L (s : State) : Out := instr 2 8 (setBitOf 5 .l) s
def execSet5A (s : State) : Out := instr 2 8 (setBitOf 5 .a) s
def execSet6B (s : State) : Out := instr 2 8 (setBitOf 6 .b) s
def execSet6C (s : State) : Out := instr 2 8 (setBitOf 6 .c) s
def execSet6D (s : State) : Out := instr 2 8 (setBitOf 6 .d) s
def execSet6E (s : State) : Out := instr 2 8 (setBitOf 6 .e) s
def execSet6H (s : State) : Out := instr 2 8 (setBitOf 6 .h) s
def execSet6L (s : State) : Out := instr 2 8 (setBitOf 6 .l) s
def execSet6A (s : State) : Out := instr 2 8 (setBitOf 6 .a) s
def execSet7B (s : State) : Out := instr 2 8 (setBitOf 7 .b) s
def execSet7C (s : State) : Out := instr 2 8 (setBitOf 7 .c) s
def execSet7D (s : State) : Out := instr 2 8 (setBitOf 7 .d) s
def execSet7E (s : State) : Out := instr 2 8 (setBitOf 7 .e) s
def execSet7H (s : State) : Out := instr 2 8 (setBitOf 7 .h) s
def execSet7L (s : State) : Out := instr 2 8 (setBitOf 7 .l) s
def execSet7A (s : State) : Out := instr 2 8 (setBitOf 7 .a) s

/-! R356: SET b,(HL) (set bit in memory). -/

def execSet0AtHl (s : State) : Out := instr 2 16 (setBitOf 0 .mem) s
def execSet1AtHl (s : State) : Out := instr 2 16 (setBitOf 1 .mem) s
def execSet2AtHl (s : State) : Out := instr 2 16 (setBitOf 2 .mem) s
def execSet3AtHl (s : State) : Out := instr 2 16 (setBitOf 3 .mem) s
def execSet4AtHl (s : State) : Out := instr 2 16 (setBitOf 4 .mem) s
def execSet5AtHl (s : State) : Out := instr 2 16 (setBitOf 5 .mem) s
def execSet6AtHl (s : State) : Out := instr 2 16 (setBitOf 6 .mem) s
def execSet7AtHl (s : State) : Out := instr 2 16 (setBitOf 7 .mem) s

end Sys2Proof.Machine
end

