-- ==== Sys2Proof/Machine/Control.lean ====
section
/-! DEFINITION. Jumps, calls, returns and restarts (44_control.md R381 to R391).
Each meaning gives its row's length and cycles (opcode_table.json) to `instr` or `instrIf`, and its rule's pseudocode as
the body. -/

namespace Sys2Proof.Machine

/-! R381: JP a16 (absolute jump). -/

def execJpA16 (a : Word) (s : State) : Out := instr 3 16 (jump a) s

/-! R382: JP cc,a16 (conditional absolute jump). -/

def execJpNzA16 (a : Word) (s : State) : Out := instrIf .nz 3 12 16 (jump a) s
def execJpZA16 (a : Word) (s : State) : Out := instrIf .z 3 12 16 (jump a) s
def execJpNcA16 (a : Word) (s : State) : Out := instrIf .nc 3 12 16 (jump a) s
def execJpCA16 (a : Word) (s : State) : Out := instrIf .c 3 12 16 (jump a) s

/-! R383: JP HL (jump to the address in HL). -/

def execJpHl (s : State) : Out := instr 1 4 (fun t => jump t.regs.hl t) s

/-! R384: JR e8 (relative jump). -/

def execJrE8 (e : Byte) (s : State) : Out := instr 2 12 (jumpRel e) s

/-! R385: JR cc,e8 (conditional relative jump). -/

def execJrNzE8 (e : Byte) (s : State) : Out := instrIf .nz 2 8 12 (jumpRel e) s
def execJrZE8 (e : Byte) (s : State) : Out := instrIf .z 2 8 12 (jumpRel e) s
def execJrNcE8 (e : Byte) (s : State) : Out := instrIf .nc 2 8 12 (jumpRel e) s
def execJrCE8 (e : Byte) (s : State) : Out := instrIf .c 2 8 12 (jumpRel e) s

/-! R386: CALL a16 (call subroutine). -/

def execCallA16 (a : Word) (s : State) : Out := instr 3 24 (call a) s

/-! R387: CALL cc,a16 (conditional call). -/

def execCallNzA16 (a : Word) (s : State) : Out := instrIf .nz 3 12 24 (call a) s
def execCallZA16 (a : Word) (s : State) : Out := instrIf .z 3 12 24 (call a) s
def execCallNcA16 (a : Word) (s : State) : Out := instrIf .nc 3 12 24 (call a) s
def execCallCA16 (a : Word) (s : State) : Out := instrIf .c 3 12 24 (call a) s

/-! R388: RET (return). -/

def execRet (s : State) : Out := instr 1 16 Machine.ret s

/-! R389: RET cc (conditional return). -/

def execRetNz (s : State) : Out := instrIf .nz 1 8 20 Machine.ret s
def execRetZ (s : State) : Out := instrIf .z 1 8 20 Machine.ret s
def execRetNc (s : State) : Out := instrIf .nc 1 8 20 Machine.ret s
def execRetC (s : State) : Out := instrIf .c 1 8 20 Machine.ret s

/-! R390: RETI (return from interrupt handler). -/

def execReti (s : State) : Out := instr 1 16 State.returnFromInterrupt s

/-! R391: RST t (restart: call a fixed vector). -/

def execRst00 (s : State) : Out := instr 1 16 (call 0x0000) s
def execRst08 (s : State) : Out := instr 1 16 (call 0x0008) s
def execRst10 (s : State) : Out := instr 1 16 (call 0x0010) s
def execRst18 (s : State) : Out := instr 1 16 (call 0x0018) s
def execRst20 (s : State) : Out := instr 1 16 (call 0x0020) s
def execRst28 (s : State) : Out := instr 1 16 (call 0x0028) s
def execRst30 (s : State) : Out := instr 1 16 (call 0x0030) s
def execRst38 (s : State) : Out := instr 1 16 (call 0x0038) s

end Sys2Proof.Machine
end

