-- ==== Sys2Proof/Machine/Load.lean ====
section
/-! DEFINITION. Loads, stores, PUSH and POP (40_load.md R202 to R226).
Each meaning gives its row's length and cycles (opcode_table.json) to `instr` or `instrIf`, and its rule's pseudocode as
the body. -/

namespace Sys2Proof.Machine

/-! R202: LD r,r' (register to register). -/

def execLdBB (s : State) : Out := instr 1 4 (ld .b .b) s
def execLdBC (s : State) : Out := instr 1 4 (ld .b .c) s
def execLdBD (s : State) : Out := instr 1 4 (ld .b .d) s
def execLdBE (s : State) : Out := instr 1 4 (ld .b .e) s
def execLdBH (s : State) : Out := instr 1 4 (ld .b .h) s
def execLdBL (s : State) : Out := instr 1 4 (ld .b .l) s
def execLdBA (s : State) : Out := instr 1 4 (ld .b .a) s
def execLdCB (s : State) : Out := instr 1 4 (ld .c .b) s
def execLdCC (s : State) : Out := instr 1 4 (ld .c .c) s
def execLdCD (s : State) : Out := instr 1 4 (ld .c .d) s
def execLdCE (s : State) : Out := instr 1 4 (ld .c .e) s
def execLdCH (s : State) : Out := instr 1 4 (ld .c .h) s
def execLdCL (s : State) : Out := instr 1 4 (ld .c .l) s
def execLdCA (s : State) : Out := instr 1 4 (ld .c .a) s
def execLdDB (s : State) : Out := instr 1 4 (ld .d .b) s
def execLdDC (s : State) : Out := instr 1 4 (ld .d .c) s
def execLdDD (s : State) : Out := instr 1 4 (ld .d .d) s
def execLdDE (s : State) : Out := instr 1 4 (ld .d .e) s
def execLdDH (s : State) : Out := instr 1 4 (ld .d .h) s
def execLdDL (s : State) : Out := instr 1 4 (ld .d .l) s
def execLdDA (s : State) : Out := instr 1 4 (ld .d .a) s
def execLdEB (s : State) : Out := instr 1 4 (ld .e .b) s
def execLdEC (s : State) : Out := instr 1 4 (ld .e .c) s
def execLdED (s : State) : Out := instr 1 4 (ld .e .d) s
def execLdEE (s : State) : Out := instr 1 4 (ld .e .e) s
def execLdEH (s : State) : Out := instr 1 4 (ld .e .h) s
def execLdEL (s : State) : Out := instr 1 4 (ld .e .l) s
def execLdEA (s : State) : Out := instr 1 4 (ld .e .a) s
def execLdHB (s : State) : Out := instr 1 4 (ld .h .b) s
def execLdHC (s : State) : Out := instr 1 4 (ld .h .c) s
def execLdHD (s : State) : Out := instr 1 4 (ld .h .d) s
def execLdHE (s : State) : Out := instr 1 4 (ld .h .e) s
def execLdHH (s : State) : Out := instr 1 4 (ld .h .h) s
def execLdHL (s : State) : Out := instr 1 4 (ld .h .l) s
def execLdHA (s : State) : Out := instr 1 4 (ld .h .a) s
def execLdLB (s : State) : Out := instr 1 4 (ld .l .b) s
def execLdLC (s : State) : Out := instr 1 4 (ld .l .c) s
def execLdLD (s : State) : Out := instr 1 4 (ld .l .d) s
def execLdLE (s : State) : Out := instr 1 4 (ld .l .e) s
def execLdLH (s : State) : Out := instr 1 4 (ld .l .h) s
def execLdLL (s : State) : Out := instr 1 4 (ld .l .l) s
def execLdLA (s : State) : Out := instr 1 4 (ld .l .a) s
def execLdAB (s : State) : Out := instr 1 4 (ld .a .b) s
def execLdAC (s : State) : Out := instr 1 4 (ld .a .c) s
def execLdAD (s : State) : Out := instr 1 4 (ld .a .d) s
def execLdAE (s : State) : Out := instr 1 4 (ld .a .e) s
def execLdAH (s : State) : Out := instr 1 4 (ld .a .h) s
def execLdAL (s : State) : Out := instr 1 4 (ld .a .l) s
def execLdAA (s : State) : Out := instr 1 4 (ld .a .a) s

/-! R203: LD r,(HL) (load from memory at HL). -/

def execLdBAtHl (s : State) : Out := instr 1 8 (ld .b .mem) s
def execLdCAtHl (s : State) : Out := instr 1 8 (ld .c .mem) s
def execLdDAtHl (s : State) : Out := instr 1 8 (ld .d .mem) s
def execLdEAtHl (s : State) : Out := instr 1 8 (ld .e .mem) s
def execLdHAtHl (s : State) : Out := instr 1 8 (ld .h .mem) s
def execLdLAtHl (s : State) : Out := instr 1 8 (ld .l .mem) s
def execLdAAtHl (s : State) : Out := instr 1 8 (ld .a .mem) s

/-! R204: LD (HL),r (store to memory at HL). -/

def execLdAtHlB (s : State) : Out := instr 1 8 (ld .mem .b) s
def execLdAtHlC (s : State) : Out := instr 1 8 (ld .mem .c) s
def execLdAtHlD (s : State) : Out := instr 1 8 (ld .mem .d) s
def execLdAtHlE (s : State) : Out := instr 1 8 (ld .mem .e) s
def execLdAtHlH (s : State) : Out := instr 1 8 (ld .mem .h) s
def execLdAtHlL (s : State) : Out := instr 1 8 (ld .mem .l) s
def execLdAtHlA (s : State) : Out := instr 1 8 (ld .mem .a) s

/-! R205: LD r,n8 (load immediate). -/

def execLdBN8 (n : Byte) (s : State) : Out := instr 2 8 (ldImm .b n) s
def execLdCN8 (n : Byte) (s : State) : Out := instr 2 8 (ldImm .c n) s
def execLdDN8 (n : Byte) (s : State) : Out := instr 2 8 (ldImm .d n) s
def execLdEN8 (n : Byte) (s : State) : Out := instr 2 8 (ldImm .e n) s
def execLdHN8 (n : Byte) (s : State) : Out := instr 2 8 (ldImm .h n) s
def execLdLN8 (n : Byte) (s : State) : Out := instr 2 8 (ldImm .l n) s
def execLdAN8 (n : Byte) (s : State) : Out := instr 2 8 (ldImm .a n) s

/-! R206: LD (HL),n8 (store immediate to memory at HL). -/

def execLdAtHlN8 (n : Byte) (s : State) : Out := instr 2 12 (ldImm .mem n) s

/-! R207: LD A,(BC). -/

def execLdAAtBc (s : State) : Out := instr 1 8 (loadA fun t => t.regs.bc) s

/-! R208: LD A,(DE). -/

def execLdAAtDe (s : State) : Out := instr 1 8 (loadA fun t => t.regs.de) s

/-! R209: LD (BC),A. -/

def execLdAtBcA (s : State) : Out := instr 1 8 (storeA fun t => t.regs.bc) s

/-! R210: LD (DE),A. -/

def execLdAtDeA (s : State) : Out := instr 1 8 (storeA fun t => t.regs.de) s

/-! R211: LD (HL+),A (store and increment HL). -/

def execLdAtHliA (s : State) : Out := instr 1 8 (storeAStep 1) s

/-! R212: LD (HL-),A (store and decrement HL). -/

def execLdAtHldA (s : State) : Out := instr 1 8 (storeAStep (-1)) s

/-! R213: LD A,(HL+) (load and increment HL). -/

def execLdAAtHli (s : State) : Out := instr 1 8 (loadAStep 1) s

/-! R214: LD A,(HL-) (load and decrement HL). -/

def execLdAAtHld (s : State) : Out := instr 1 8 (loadAStep (-1)) s

/-! R215: LD A,(a16). -/

def execLdAAtA16 (a : Word) (s : State) : Out := instr 3 16 (loadA fun _ => a) s

/-! R216: LD (a16),A. -/

def execLdAtA16A (a : Word) (s : State) : Out := instr 3 16 (storeA fun _ => a) s

/-! R217: LDH A,(a8) (load from the I/O page). -/

def execLdhAAtA8 (a : Byte) (s : State) : Out := instr 2 12 (loadA fun _ => ioPage a) s

/-! R218: LDH (a8),A (store to the I/O page). -/

def execLdhAtA8A (a : Byte) (s : State) : Out := instr 2 12 (storeA fun _ => ioPage a) s

/-! R219: LD A,(C) (load from the I/O page at C). -/

def execLdAAtC (s : State) : Out := instr 1 8 (loadA fun t => ioPage t.regs.c) s

/-! R220: LD (C),A (store to the I/O page at C). -/

def execLdAtCA (s : State) : Out := instr 1 8 (storeA fun t => ioPage t.regs.c) s

/-! R221: LD rr,n16. -/

def execLdBcN16 (nn : Word) (s : State) : Out := instr 3 12 (ldPair .bc nn) s
def execLdDeN16 (nn : Word) (s : State) : Out := instr 3 12 (ldPair .de nn) s
def execLdHlN16 (nn : Word) (s : State) : Out := instr 3 12 (ldPair .hl nn) s
def execLdSpN16 (nn : Word) (s : State) : Out := instr 3 12 (ldPair .sp nn) s

/-! R222: LD (a16),SP (store SP to memory). -/

def execLdAtA16Sp (a : Word) (s : State) : Out := instr 3 20 (fun t => t.write16 a t.sp) s

/-! R223: LD SP,HL. -/

def execLdSpHl (s : State) : Out := instr 1 8 (fun t => .done { t with sp := t.regs.hl }) s

/-! R224: PUSH rr. -/

def execPushBc (s : State) : Out := instr 1 16 (push .bc) s
def execPushDe (s : State) : Out := instr 1 16 (push .de) s
def execPushHl (s : State) : Out := instr 1 16 (push .hl) s
def execPushAf (s : State) : Out := instr 1 16 (push .af) s

/-! R225: POP rr (BC, DE, HL). -/

def execPopBc (s : State) : Out := instr 1 12 (pop .bc) s
def execPopDe (s : State) : Out := instr 1 12 (pop .de) s
def execPopHl (s : State) : Out := instr 1 12 (pop .hl) s

/-! R226: POP AF. -/

def execPopAf (s : State) : Out := instr 1 12 (pop .af) s

end Sys2Proof.Machine
end

