-- ==== Sys2Proof/Machine/RotateShift.lean ====
section
/-! DEFINITION. Rotates and shifts (43_rotate_shift_bit.md R330 to R350).
Each meaning gives its row's length and cycles (opcode_table.json) to `instr` or `instrIf`, and its rule's pseudocode as
the body. -/

namespace Sys2Proof.Machine

/-! R330: RLCA (rotate A left circular). -/

def execRlca (s : State) : Out := instr 1 4 (rotateA .rlc) s

/-! R331: RRCA (rotate A right circular). -/

def execRrca (s : State) : Out := instr 1 4 (rotateA .rrc) s

/-! R332: RLA (rotate A left through carry). -/

def execRla (s : State) : Out := instr 1 4 (rotateA .rl) s

/-! R333: RRA (rotate A right through carry). -/

def execRra (s : State) : Out := instr 1 4 (rotateA .rr) s

/-! R335: RLC r (rotate left circular, register). -/

def execRlcB (s : State) : Out := instr 2 8 (rotateOperand .rlc .b) s
def execRlcC (s : State) : Out := instr 2 8 (rotateOperand .rlc .c) s
def execRlcD (s : State) : Out := instr 2 8 (rotateOperand .rlc .d) s
def execRlcE (s : State) : Out := instr 2 8 (rotateOperand .rlc .e) s
def execRlcH (s : State) : Out := instr 2 8 (rotateOperand .rlc .h) s
def execRlcL (s : State) : Out := instr 2 8 (rotateOperand .rlc .l) s
def execRlcA (s : State) : Out := instr 2 8 (rotateOperand .rlc .a) s

/-! R336: RLC (HL). -/

def execRlcAtHl (s : State) : Out := instr 2 16 (rotateOperand .rlc .mem) s

/-! R337: RRC r (rotate right circular, register). -/

def execRrcB (s : State) : Out := instr 2 8 (rotateOperand .rrc .b) s
def execRrcC (s : State) : Out := instr 2 8 (rotateOperand .rrc .c) s
def execRrcD (s : State) : Out := instr 2 8 (rotateOperand .rrc .d) s
def execRrcE (s : State) : Out := instr 2 8 (rotateOperand .rrc .e) s
def execRrcH (s : State) : Out := instr 2 8 (rotateOperand .rrc .h) s
def execRrcL (s : State) : Out := instr 2 8 (rotateOperand .rrc .l) s
def execRrcA (s : State) : Out := instr 2 8 (rotateOperand .rrc .a) s

/-! R338: RRC (HL). -/

def execRrcAtHl (s : State) : Out := instr 2 16 (rotateOperand .rrc .mem) s

/-! R339: RL r (rotate left through carry, register). -/

def execRlB (s : State) : Out := instr 2 8 (rotateOperand .rl .b) s
def execRlC (s : State) : Out := instr 2 8 (rotateOperand .rl .c) s
def execRlD (s : State) : Out := instr 2 8 (rotateOperand .rl .d) s
def execRlE (s : State) : Out := instr 2 8 (rotateOperand .rl .e) s
def execRlH (s : State) : Out := instr 2 8 (rotateOperand .rl .h) s
def execRlL (s : State) : Out := instr 2 8 (rotateOperand .rl .l) s
def execRlA (s : State) : Out := instr 2 8 (rotateOperand .rl .a) s

/-! R340: RL (HL). -/

def execRlAtHl (s : State) : Out := instr 2 16 (rotateOperand .rl .mem) s

/-! R341: RR r (rotate right through carry, register). -/

def execRrB (s : State) : Out := instr 2 8 (rotateOperand .rr .b) s
def execRrC (s : State) : Out := instr 2 8 (rotateOperand .rr .c) s
def execRrD (s : State) : Out := instr 2 8 (rotateOperand .rr .d) s
def execRrE (s : State) : Out := instr 2 8 (rotateOperand .rr .e) s
def execRrH (s : State) : Out := instr 2 8 (rotateOperand .rr .h) s
def execRrL (s : State) : Out := instr 2 8 (rotateOperand .rr .l) s
def execRrA (s : State) : Out := instr 2 8 (rotateOperand .rr .a) s

/-! R342: RR (HL). -/

def execRrAtHl (s : State) : Out := instr 2 16 (rotateOperand .rr .mem) s

/-! R343: SLA r (shift left arithmetic, register). -/

def execSlaB (s : State) : Out := instr 2 8 (rotateOperand .sla .b) s
def execSlaC (s : State) : Out := instr 2 8 (rotateOperand .sla .c) s
def execSlaD (s : State) : Out := instr 2 8 (rotateOperand .sla .d) s
def execSlaE (s : State) : Out := instr 2 8 (rotateOperand .sla .e) s
def execSlaH (s : State) : Out := instr 2 8 (rotateOperand .sla .h) s
def execSlaL (s : State) : Out := instr 2 8 (rotateOperand .sla .l) s
def execSlaA (s : State) : Out := instr 2 8 (rotateOperand .sla .a) s

/-! R344: SLA (HL). -/

def execSlaAtHl (s : State) : Out := instr 2 16 (rotateOperand .sla .mem) s

/-! R345: SRA r (shift right arithmetic, register). -/

def execSraB (s : State) : Out := instr 2 8 (rotateOperand .sra .b) s
def execSraC (s : State) : Out := instr 2 8 (rotateOperand .sra .c) s
def execSraD (s : State) : Out := instr 2 8 (rotateOperand .sra .d) s
def execSraE (s : State) : Out := instr 2 8 (rotateOperand .sra .e) s
def execSraH (s : State) : Out := instr 2 8 (rotateOperand .sra .h) s
def execSraL (s : State) : Out := instr 2 8 (rotateOperand .sra .l) s
def execSraA (s : State) : Out := instr 2 8 (rotateOperand .sra .a) s

/-! R346: SRA (HL). -/

def execSraAtHl (s : State) : Out := instr 2 16 (rotateOperand .sra .mem) s

/-! R347: SWAP r (exchange nibbles, register). -/

def execSwapB (s : State) : Out := instr 2 8 (rotateOperand .swap .b) s
def execSwapC (s : State) : Out := instr 2 8 (rotateOperand .swap .c) s
def execSwapD (s : State) : Out := instr 2 8 (rotateOperand .swap .d) s
def execSwapE (s : State) : Out := instr 2 8 (rotateOperand .swap .e) s
def execSwapH (s : State) : Out := instr 2 8 (rotateOperand .swap .h) s
def execSwapL (s : State) : Out := instr 2 8 (rotateOperand .swap .l) s
def execSwapA (s : State) : Out := instr 2 8 (rotateOperand .swap .a) s

/-! R348: SWAP (HL). -/

def execSwapAtHl (s : State) : Out := instr 2 16 (rotateOperand .swap .mem) s

/-! R349: SRL r (shift right logical, register). -/

def execSrlB (s : State) : Out := instr 2 8 (rotateOperand .srl .b) s
def execSrlC (s : State) : Out := instr 2 8 (rotateOperand .srl .c) s
def execSrlD (s : State) : Out := instr 2 8 (rotateOperand .srl .d) s
def execSrlE (s : State) : Out := instr 2 8 (rotateOperand .srl .e) s
def execSrlH (s : State) : Out := instr 2 8 (rotateOperand .srl .h) s
def execSrlL (s : State) : Out := instr 2 8 (rotateOperand .srl .l) s
def execSrlA (s : State) : Out := instr 2 8 (rotateOperand .srl .a) s

/-! R350: SRL (HL). -/

def execSrlAtHl (s : State) : Out := instr 2 16 (rotateOperand .srl .mem) s

end Sys2Proof.Machine
end

