-- ==== Sys2Proof/Machine/SystemControl.lean ====
section
/-! DEFINITION. System and miscellaneous instructions (45_system.md R420 to R425).
Each meaning gives its row's length and cycles (opcode_table.json) to `instr` or `instrIf`, and its rule's pseudocode as
the body. -/

namespace Sys2Proof.Machine

/-! R420: NOP (no operation). -/

def execNop (s : State) : Out := instr 1 4 .done s

/-! R421: HALT (wait for an interrupt). -/

/-- HALT's pseudocode; `pc0` is the address of its opcode. -/
def halt (pc0 : Word) (s : State) : Effect :=
  match s.launch.params.irqMode with
  | .failLoudly => .raise (.halt pc0) s
  | .standard =>
    if s.pending = 0 then .done { s with halted := true }
    else if s.ime then .done s
    else .raise (.haltBug pc0) s

def execHalt (s : State) : Out := instr 1 4 (halt s.pc) s

/-! R422: STOP (stop the system clock). -/

/-- The ignored byte `n` is part of the instruction. -/
def execStop (_n : Byte) (s : State) : Out := instr 2 4 (fun t => .raise (.stop s.pc) t) s

/-! R423: DI (disable interrupts). -/

def execDi (s : State) : Out := instr 1 4 (fun t => .done { t with ime := false, eiDelay := 0 }) s

/-! R424: EI (enable interrupts after one instruction). -/

def execEi (s : State) : Out := instr 1 4 (fun t => .done (if t.ime = false ∧ t.eiDelay = 0 then { t with eiDelay := 2 } else t)) s

/-! R425: UNDEFINED (the eleven unassigned base opcodes). -/

def execUndefinedD3 (s : State) : Out := instr 1 0 .done s
def execUndefinedDB (s : State) : Out := instr 1 0 .done s
def execUndefinedDD (s : State) : Out := instr 1 0 .done s
def execUndefinedE3 (s : State) : Out := instr 1 0 .done s
def execUndefinedE4 (s : State) : Out := instr 1 0 .done s
def execUndefinedEB (s : State) : Out := instr 1 0 .done s
def execUndefinedEC (s : State) : Out := instr 1 0 .done s
def execUndefinedED (s : State) : Out := instr 1 0 .done s
def execUndefinedF4 (s : State) : Out := instr 1 0 .done s
def execUndefinedFC (s : State) : Out := instr 1 0 .done s
def execUndefinedFD (s : State) : Out := instr 1 0 .done s

end Sys2Proof.Machine
end

