-- ==== Sys2Proof/Machine/Scheduler.lean ====
section
/-! DEFINITION. The GPU Mode Scheduler (60_exceptions.md R468 to R474). -/

namespace Sys2Proof.Machine

/-- Mode durations in the engine's cycles (R468). -/
def Mode.duration : Mode → Nat
  | .oamRead => 80
  | .vramRead => 172
  | .hblank => 204
  | .vblank => 456

/-- The first line that is not visible, and the number of lines (R470, R471). -/
def visibleLines : Nat := 144

def totalLines : Nat := 154

/-- VBLANK entry: the mode, the frame-complete signal, the frame counter where `P_FRAME_COUNT_POINT` is `VblankEntry`
(R472), and the VBlank request in IF bit 0 (R474). -/
def State.enterVblank (s : State) : State :=
  let frames := if s.launch.params.frameCountPoint = .vblankEntry then s.gpu.frames + 1 else s.gpu.frames
  { s with gpu := { s.gpu with mode := .vblank, frames := frames, frameSignals := s.gpu.frameSignals + 1 } }.setByte
    0xFF0F (s.iflag ||| 0x01)

/-- The wrap from line 153 to line 0: the frame counter where `P_FRAME_COUNT_POINT` is `FrameWrap` (R471, R472). -/
def State.wrapFrame (s : State) : State :=
  let frames := if s.launch.params.frameCountPoint = .frameWrap then s.gpu.frames + 1 else s.gpu.frames
  { s with gpu := { s.gpu with mode := .oamRead, scanline := 0, frames := frames } }

/-- `scanline <- scanline + 1`. -/
def State.nextLine (s : State) : State := { s with gpu := { s.gpu with scanline := s.gpu.scanline + 1 } }

/-- `mode <- m`. -/
def State.setMode (s : State) (m : Mode) : State := { s with gpu := { s.gpu with mode := m } }

/-- `Transition()` (R470, R471). -/
def State.transition (s : State) : State :=
  match s.gpu.mode with
  | .oamRead => s.setMode .vramRead
  | .vramRead => s.setMode .hblank
  | .hblank =>
    let t := s.nextLine
    if t.gpu.scanline = visibleLines then t.enterVblank else t.setMode .oamRead
  | .vblank =>
    let t := s.nextLine
    if t.gpu.scanline = totalLines then t.wrapFrame else t

/-- `acc <- n`. -/
def State.setAcc (s : State) (n : Nat) : State := { s with gpu := { s.gpu with acc := n } }

/-- The loop of R469, at most `fuel` times round. -/
def schedLoop (fuel : Nat) (s : State) : State :=
  match fuel with
  | 0 => s
  | n + 1 =>
    if s.gpu.mode.duration ≤ s.gpu.acc then
      schedLoop n (s.setAcc (s.gpu.acc - s.gpu.mode.duration)).transition
    else s

/-- `Sched(c)` (R469): the test is `acc >= duration` (90_conflicts.md C1). Each time round takes at least 80 cycles from
`acc`, so the fuel `(acc + c) / 80` never cuts the loop short (notes/assumptions/15.md). -/
def sched (c : Nat) (s : State) : State :=
  schedLoop ((s.gpu.acc + c) / 80) (s.setAcc (s.gpu.acc + c))

end Sys2Proof.Machine
end

