-- ==== Sys2Proof/Machine/Engine.lean ====
section
/-! DEFINITION. Fetch (30_encoding.md R156, R158) and the system step around an instruction (60_exceptions.md R475). -/

namespace Sys2Proof.Machine

/-- The instruction at PC: the opcode byte and the bytes after it, read through the bus (R158). Reads have no effect
(20_memory.md R122), so reading bytes beyond the instruction's length is not observable (notes/assumptions/10.md). -/
def State.fetch (s : State) : Instr := decode3 (s.read s.pc) (s.read (s.pc + 1)) (s.read (s.pc + 2))

/-- The EI countdown after an instruction (10_state.md R39, R475). -/
def State.countdown (s : State) : State :=
  match s.eiDelay with
  | 0 => s
  | 1 => { s with eiDelay := 0, ime := true }
  | 2 => { s with eiDelay := 1 }

/-- The step of a boundary where IME = 1 and an enabled interrupt is pending (R459): a fault in `FailLoudly` mode, a
20-cycle dispatch in `Standard` mode (R460, R461). -/
def State.interrupt (s : State) : Out :=
  match s.launch.params.irqMode with
  | .failLoudly => raiseFault (.interruptDispatch s.pending) s.pc s
  | .standard => conclude s.pc 20 (s.dispatch s.pending)

/-- Whether a boundary takes an interrupt (R459). -/
def State.takesInterrupt (s : State) : Bool := s.ime && s.pending != 0

/-- `Step()` (R475), with the instruction's execution as an argument: a latched fault is returned; a halted core waits or
wakes; the boundary takes an interrupt or runs an instruction and the EI countdown; the scheduler gets the cycles. -/
def systemStep (execute : State → Out) (s : State) : Out :=
  match s.fault with
  | some r => .fault (Fault.ofRecord r s)
  | none =>
    if s.halted && s.pending == 0 then .next (sched 4 { s with cycles := 4 })
    else
      let w := { s with halted := false }
      if w.takesInterrupt then mapNext (fun t => sched t.cycles t) w.interrupt
      else mapNext (fun t => sched t.cycles t.countdown) (execute w)

end Sys2Proof.Machine
end

