-- ==== Sys2Proof/Machine/Step.lean ====
section
/-! DEFINITION. The step: `Step()` of 60_exceptions.md R475 around the instruction at PC, and the placing of an
instruction where that step fetches. -/

namespace Sys2Proof.Machine

/-- One `Step()` (R475). -/
def step (s : State) : Host.Outcome State Fault Refusal := systemStep (fun t => exec t.fetch t) s

/-- `s` with the instruction that opcode_table.json numbers as the `nbits`-bit value `w` stored at PC, in the boot image,
the cartridge or RAM, wherever PC points (notes/assumptions/11.md). -/
def State.withFetchWord (s : State) (nbits w : Nat) : State := s.placeAtPc (tableBytes nbits w)

end Sys2Proof.Machine
end

