-- ==== Sys2Proof/Machine/Launch.lean ====
section
/-! DEFINITION. Construction from the host's launch inputs (70_reset_and_hazards.md R520, R529; 60_exceptions.md R480). -/

namespace Sys2Proof.Machine

/-- The launch inputs as the host gives them (00_scope.md R8). -/
structure LaunchInputs where
  cart : List Byte
  boot : List Byte
  params : Params
  mode : LaunchMode
  init : Init
deriving DecidableEq, Repr

/-- Why construction fails (R529). -/
inductive LaunchError where
  /-- `P_CART` is shorter than 0x8000 bytes. -/
  | cartTooShort (length : Nat)
  /-- `P_BOOT_IMAGE` is not exactly 256 bytes. -/
  | bootImageSize (length : Nat)
deriving DecidableEq, Repr

/-- Bytes at consecutive addresses from `k` up. -/
def Memory.ofBytes (k : Nat) (bs : List Byte) : Memory :=
  match bs with
  | [] => []
  | v :: rest => Memory.cons k v (Memory.ofBytes (k + 1) rest)

/-- The canonical memory that holds the cells of `P_INIT` that name storage; of two cells with one address the first
counts. -/
def Memory.ofCells (cells : List Host.Cell) : Memory :=
  match cells with
  | [] => []
  | (k, v) :: rest => if isStorage k then (Memory.ofCells rest).write k v else Memory.ofCells rest

/-- Construction: refused for a short cartridge or a boot image of the wrong size (R529), else the reset state of R521 to
R527. Cartridge bytes from 0x8000 up are never read (20_memory.md R104) and are not kept. -/
def State.construct (x : LaunchInputs) : Except LaunchError State :=
  if x.cart.length < 0x8000 then .error (.cartTooShort x.cart.length)
  else if x.boot.length ≠ 256 then .error (.bootImageSize x.boot.length)
  else .ok (State.build
    { cart := Memory.ofBytes 0 (x.cart.take 0x8000), boot := Memory.ofBytes 0 x.boot, params := x.params } x.mode
    { x.init with mem := Memory.ofCells x.init.mem })

end Sys2Proof.Machine
end

