-- ==== Sys2Proof/Safety.lean ====
section
/-! DEFINITION. The terms the statements use: what a fault leaves, the value of an operand, what a byte of F says, the
addresses an instruction stores to and the reads a store can change, the outcomes of stores and pushes, and the invariants
of a safe run. None of it is used by the machine. -/

namespace Sys2Proof.Machine

/-! ## Faults -/

/-- The record of a fault (60_exceptions.md R450). -/
def Fault.record : Fault → FaultRecord
  | .bankSwitch addr value origin _ => ⟨.bankSwitch addr value, origin⟩
  | .unusableWrite addr value origin _ => ⟨.unusableWrite addr value, origin⟩
  | .oamDma value origin _ => ⟨.oamDma value, origin⟩
  | .interruptDispatch pending origin _ => ⟨.interruptDispatch pending, origin⟩
  | .halt pc0 origin _ => ⟨.halt pc0, origin⟩
  | .haltBug pc0 origin _ => ⟨.haltBug pc0, origin⟩
  | .stop pc0 origin _ => ⟨.stop pc0, origin⟩
  | .invariantViolation what origin _ => ⟨.invariantViolation what, origin⟩

/-- The state a fault leaves (R452). -/
def Fault.left : Fault → State
  | .bankSwitch _ _ _ left => left
  | .unusableWrite _ _ _ left => left
  | .oamDma _ _ left => left
  | .interruptDispatch _ _ left => left
  | .halt _ _ left => left
  | .haltBug _ _ left => left
  | .stop _ _ left => left
  | .invariantViolation _ _ left => left

/-- `P` of the state an outcome ends in, be it the next state or the state a fault leaves. -/
def Ends (o : Out) (P : State → Prop) : Prop :=
  match o with
  | .next t => P t
  | .fault f => P f.left
  | .refused _ => True

/-! ## Operands and flags -/

/-- The register file with the register `z` replaced; `mem` names no register. -/
def Regs.put (r : Regs) (z : R8) (v : Byte) : Regs :=
  z.sel { r with b := v } { r with c := v } { r with d := v } { r with e := v } { r with h := v } { r with l := v } r
    { r with a := v }

/-- The value of an `r` operand (30_encoding.md R153). -/
def State.operand (s : State) (z : R8) : Byte :=
  z.sel s.regs.b s.regs.c s.regs.d s.regs.e s.regs.h s.regs.l (s.read (s.regs.h ++ s.regs.l)) s.regs.a

/-- The byte `f` of F has the flags Z, N, H, C as said, and its low nibble is 0 (10_state.md R33, R34). -/
def FlagsAre (f : Byte) (z n h c : Prop) : Prop :=
  (f.getLsbD 7 = true ↔ z) ∧ (f.getLsbD 6 = true ↔ n) ∧ (f.getLsbD 5 = true ↔ h) ∧ (f.getLsbD 4 = true ↔ c) ∧
    f &&& 0x0F = 0

/-- Carry, zero, subtract and half-carry flags of a state. -/
def State.cf (s : State) : Bool := s.regs.f.getLsbD 4
def State.zf (s : State) : Bool := s.regs.f.getLsbD 7
def State.nf (s : State) : Bool := s.regs.f.getLsbD 6
def State.hf (s : State) : Bool := s.regs.f.getLsbD 5

/-- A condition on the flags of a state (44_control.md R380). -/
def State.met (s : State) (cc : Cond) : Bool :=
  match cc with
  | .nz => s.zf == false
  | .z => s.zf == true
  | .nc => s.cf == false
  | .c => s.cf == true

/-- `o` is the next state that differs from `s` in A, F, PC and the cycle count only; A and F satisfy `P`. -/
def SetsAF (o : Out) (s : State) (length : Word) (cycles : Nat) (P : Byte → Byte → Prop) : Prop :=
  ∃ a f, o = .next { s with regs := { s.regs with a := a, f := f }, pc := s.pc + length, cycles := cycles } ∧ P a f

/-- `o` is the next state that differs from `s` in the register `y`, F, PC and the cycle count only. -/
def SetsRF (o : Out) (s : State) (y : R8) (length : Word) (cycles : Nat) (P : Byte → Byte → Prop) : Prop :=
  ∃ w f, o = .next { s with regs := { s.regs.put y w with f := f }, pc := s.pc + length, cycles := cycles } ∧ P w f

/-- The value of an `rr` operand (R153). -/
def State.pairValue (s : State) (p : R16) : Word :=
  match p with
  | .bc => s.regs.b ++ s.regs.c
  | .de => s.regs.d ++ s.regs.e
  | .hl => s.regs.h ++ s.regs.l
  | .sp => s.sp

/-- `o` is the next state that differs from `s` in the pair `p`, PC and the cycle count only, `p` being `v`. -/
def SetsPair (o : Out) (s : State) (p : R16) (v : Word) (length : Word) (cycles : Nat) : Prop :=
  ∃ r sp, o = .next { s with regs := r, sp := sp, pc := s.pc + length, cycles := cycles } ∧
    { s with regs := r, sp := sp }.pairValue p = v ∧
    (∀ q, q ≠ p → { s with regs := r, sp := sp }.pairValue q = s.pairValue q) ∧
    r.a = s.regs.a ∧ r.f = s.regs.f

/-- The byte of two decimal digits. -/
def bcd (n : Nat) : Byte := BitVec.ofNat 8 (n / 10 * 16 + n % 10)

/-- The cycles of a form: those with a register, or those with `(HL)`. -/
def regOrMem (z : R8) (reg mem : Nat) : Nat := if z = .mem then mem else reg

/-- What R335 to R350 say of a rotated or shifted byte `w` of `v`, bit by bit, and of the outgoing carry. -/
def rotated (op : RotOp) (v : Byte) (cin : Bool) (w : Byte) (carry : Bool) : Prop :=
  match op with
  | .rlc => (∀ j < 8, w.getLsbD j = if j = 0 then v.getLsbD 7 else v.getLsbD (j - 1)) ∧ carry = v.getLsbD 7
  | .rrc => (∀ j < 8, w.getLsbD j = if j = 7 then v.getLsbD 0 else v.getLsbD (j + 1)) ∧ carry = v.getLsbD 0
  | .rl => (∀ j < 8, w.getLsbD j = if j = 0 then cin else v.getLsbD (j - 1)) ∧ carry = v.getLsbD 7
  | .rr => (∀ j < 8, w.getLsbD j = if j = 7 then cin else v.getLsbD (j + 1)) ∧ carry = v.getLsbD 0
  | .sla => w.toNat = v.toNat * 2 % 256 ∧ carry = v.getLsbD 7
  | .sra => w = v.sshiftRight 1 ∧ carry = v.getLsbD 0
  | .swap => w.toNat = v.toNat % 16 * 16 + v.toNat / 16 ∧ carry = false
  | .srl => w.toNat = v.toNat / 2 ∧ carry = v.getLsbD 0

/-- One of four by the scheduler's mode, in the order OAM_READ, VRAM_READ, HBLANK, VBLANK. -/
def Mode.sel {α : Type} (m : Mode) (oamRead vramRead hblank vblank : α) : α :=
  match m with
  | .oamRead => oamRead
  | .vramRead => vramRead
  | .hblank => hblank
  | .vblank => vblank

/-! ## Stores -/

/-- Whether a bus write to `a` raises no fault (40_load.md, "write faults"). -/
def State.storable (s : State) (a : Word) : Bool :=
  !(a.toNat < 0x8000) &&
  !(0xFEA0 ≤ a.toNat && a.toNat < 0xFF00 && s.launch.params.unusableWrite == .fault) &&
  !(a == 0xFF46 && s.launch.params.dmaMode == .fault)

/-- An address whose byte reads back as it was last written: RAM, OAM, IE, or an I/O register other than DIV, STAT, LY,
DMA and BOOT (20_memory.md R122). -/
def isPlain (a : Word) : Bool :=
  0x8000 ≤ a.toNat && !(0xFEA0 ≤ a.toNat && a.toNat < 0xFF00) &&
  a != 0xFF04 && a != 0xFF41 && a != 0xFF44 && a != 0xFF46 && a != 0xFF50

/-- Whether a bus write to `a` can change what a read of `b` returns: the same storage; STAT's coincidence bit for LYC; the
boot image for BOOT; OAM for DMA in `Copy` mode. -/
def State.reaches (s : State) (a b : Word) : Bool :=
  home a == home b || (a == 0xFF45 && b == 0xFF41) || (a == 0xFF50 && b.toNat < 0x100) ||
  (a == 0xFF46 && s.launch.params.dmaMode == .copy && 0xFE00 ≤ b.toNat && b.toNat < 0xFEA0)

/-- The two addresses a push writes, in order (40_load.md R200). -/
def State.pushed (s : State) : List Word := [s.sp - 1, s.sp - 2]

/-- The address in HL. -/
def State.atHl (s : State) : List Word := [s.regs.hl]

/-- The outcome of one bus write of `v` to `a` by an instruction of `length` bytes that leaves the registers `r` where the
write succeeds. -/
def storeOutcome (s : State) (a : Word) (v : Byte) (length : Word) (cycles : Nat) (r : Regs) : Out :=
  match s.write a v with
  | .done t => .next { t with regs := r, pc := s.pc + length, cycles := cycles }
  | .raise k t => raiseFault k s.pc { t with pc := s.pc + length }

/-- The outcome of a push of `v` (40_load.md R200) by an instruction of `length` bytes that then goes on at `target`: SP is
decremented before each write, and a faulting write leaves PC after the instruction. -/
def pushOutcome (s : State) (v : Word) (length : Word) (target : Word) (cycles : Nat) : Out :=
  match { s with sp := s.sp - 1 }.write (s.sp - 1) (hiByte v) with
  | .raise k t => raiseFault k s.pc { t with pc := s.pc + length }
  | .done t =>
    match { t with sp := s.sp - 2 }.write (s.sp - 2) (loByte v) with
    | .raise k u => raiseFault k s.pc { u with pc := s.pc + length }
    | .done u => .next { u with pc := target, cycles := cycles }

/-! ## Invariants -/

/-- F's low nibble is 0 (10_state.md R33). -/
def State.lowNibbleClear (s : State) : Bool := s.regs.f &&& 0x0F == 0

/-- `mem` is canonical and lists storage only; the launch images are canonical. -/
def State.memoryOk (s : State) : Bool :=
  s.mem.wf && s.mem.all (fun c => isStorage c.1) && s.launch.cart.wf && s.launch.boot.wf

/-- R46: the mode and the line are one point of the frame's sequence, and `acc` is less than the mode's duration. -/
def State.schedulerOk (s : State) : Bool :=
  decide (s.gpu.scanline < 154) && (decide (144 ≤ s.gpu.scanline) == (s.gpu.mode == .vblank)) &&
  decide (s.gpu.acc < s.gpu.mode.duration)

/-- R461: `ei_delay` is 0 whenever IME is 1. -/
def State.eiOk (s : State) : Bool := !s.ime || s.eiDelay == 0

/-- R40: in `FailLoudly` mode `halted` is never set. -/
def State.haltOk (s : State) : Bool := !(s.launch.params.irqMode == .failLoudly && s.halted)

/-- The invariants together. -/
def State.inv (s : State) : Bool :=
  s.lowNibbleClear && s.memoryOk && s.schedulerOk && s.eiOk && s.haltOk

end Sys2Proof.Machine

namespace Sys2Proof

open Machine

/-! ## What an instruction may do, by its name -/

/-- The addresses an instruction stores to in a state, in order: the address expressions of the meanings. -/
def Instr.stores (i : Instr) (s : State) : List Word :=
  match i with
  | .ldAtBcA => [s.regs.bc]
  | .ldAtDeA => [s.regs.de]
  | .ldAtHliA | .ldAtHldA | .ldAtHlN8 _ | .incAtHl | .decAtHl => s.atHl
  | .ldAtHlB | .ldAtHlC | .ldAtHlD | .ldAtHlE | .ldAtHlH | .ldAtHlL | .ldAtHlA => s.atHl
  | .ldAtA16A a => [a]
  | .ldhAtA8A a => [ioPage a]
  | .ldAtCA => [ioPage s.regs.c]
  | .ldAtA16Sp a => [a, a + 1]
  | .rlcAtHl | .rrcAtHl | .rlAtHl | .rrAtHl | .slaAtHl | .sraAtHl | .swapAtHl | .srlAtHl => s.atHl
  | .res0AtHl | .res1AtHl | .res2AtHl | .res3AtHl | .res4AtHl | .res5AtHl | .res6AtHl | .res7AtHl => s.atHl
  | .set0AtHl | .set1AtHl | .set2AtHl | .set3AtHl | .set4AtHl | .set5AtHl | .set6AtHl | .set7AtHl => s.atHl
  | .pushBc | .pushDe | .pushHl | .pushAf | .callA16 _ => s.pushed
  | .rst00 | .rst08 | .rst10 | .rst18 | .rst20 | .rst28 | .rst30 | .rst38 => s.pushed
  | .callNzA16 _ => if s.met .nz then s.pushed else []
  | .callZA16 _ => if s.met .z then s.pushed else []
  | .callNcA16 _ => if s.met .nc then s.pushed else []
  | .callCA16 _ => if s.met .c then s.pushed else []
  | _ => []

/-- The control transfers (44_control.md), after which PC need not be the next address. -/
def Instr.transfers (i : Instr) : Bool :=
  match i with
  | .jpA16 _ | .jpNzA16 _ | .jpZA16 _ | .jpNcA16 _ | .jpCA16 _ | .jpHl => true
  | .jrE8 _ | .jrNzE8 _ | .jrZE8 _ | .jrNcE8 _ | .jrCE8 _ => true
  | .callA16 _ | .callNzA16 _ | .callZA16 _ | .callNcA16 _ | .callCA16 _ => true
  | .ret | .retNz | .retZ | .retNc | .retC | .reti => true
  | .rst00 | .rst08 | .rst10 | .rst18 | .rst20 | .rst28 | .rst30 | .rst38 => true
  | _ => false

/-- The instructions that write SP (10_state.md R36). -/
def Instr.writesSp (i : Instr) : Bool :=
  match i with
  | .ldSpN16 _ | .ldSpHl | .addSpE8 _ | .incSp | .decSp => true
  | .pushBc | .pushDe | .pushHl | .pushAf | .popBc | .popDe | .popHl | .popAf => true
  | .callA16 _ | .callNzA16 _ | .callZA16 _ | .callNcA16 _ | .callCA16 _ => true
  | .ret | .retNz | .retZ | .retNc | .retC | .reti => true
  | .rst00 | .rst08 | .rst10 | .rst18 | .rst20 | .rst28 | .rst30 | .rst38 => true
  | _ => false

/-- The condition of a conditional transfer (44_control.md R382, R385, R387, R389). -/
def Instr.cond (i : Instr) : Option Cond :=
  match i with
  | .jpNzA16 _ | .jrNzE8 _ | .callNzA16 _ | .retNz => some .nz
  | .jpZA16 _ | .jrZE8 _ | .callZA16 _ | .retZ => some .z
  | .jpNcA16 _ | .jrNcE8 _ | .callNcA16 _ | .retNc => some .nc
  | .jpCA16 _ | .jrCE8 _ | .callCA16 _ | .retC => some .c
  | _ => none

/-- What a flag effect says of a flag before and after (00_scope.md R13). -/
def FlagEffect.allows (e : FlagEffect) (before after : Bool) : Prop :=
  match e with
  | .zero => after = false
  | .one => after = true
  | .keep => after = before
  | .computed => True

end Sys2Proof
end

