-- ==== Sys2Proof/WellFormed.lean ====
section
/-! DEFINITION. Well-formedness of instructions and of their encodings.
The types of Instr's arguments admit exactly the immediates an encoding admits (30_encoding.md R152, R154), and there is
no illegal or reserved encoding (R157, R160), so no term of Instr is ill formed. What can be ill formed is a list of bytes
offered as one instruction. -/

namespace Sys2Proof

/-- Every instruction is well formed: each argument is a byte or a word, as its encoding has room for. -/
def Instr.wellFormed (i : Instr) : Bool := 1 ≤ i.length && i.length ≤ 3

/-- A list of bytes is one whole instruction: it has an opcode byte, and as many bytes as that opcode's length
(R150, R160). -/
def wellFormedBytes (bs : List Byte) : Bool :=
  match bs with
  | [] => false
  | op :: rest => rest.length + 1 == opcodeLength op

end Sys2Proof
end

