-- ==== Sys2Proof/Certificates/Slice0/Obligations.lean ====
section
/-! DEFINITION. The statements for the provers, from the numbered rules of spec/. -/

open Sys2Proof Sys2Proof.Machine

/-! ## Encoding (30_encoding.md) -/

/-- Decoding the bytes of any instruction, whatever follows them, gives the instruction and what follows. -/
def Obligations.DecodeOfEncodeIsTheInstruction : Prop :=
  ∀ (i : Instr) (rest : List Byte), decodeBytes (encode i ++ rest) = .ok (i, rest)

/-- Each instruction has one encoding: the bytes that decode to it are its encoding; every list of three bytes decodes; and
the lists that are one whole instruction are the well-formed ones (R160). -/
def Obligations.EveryByteSequenceDecodesToOneInstruction : Prop :=
  (∀ (bs rest : List Byte) (i : Instr), decodeBytes bs = .ok (i, rest) → bs = encode i ++ rest) ∧
  (∀ bs : List Byte, 3 ≤ bs.length → ∃ r, decodeBytes bs = .ok r) ∧
  (∀ bs : List Byte, wellFormedBytes bs = true ↔ ∃ i, decodeBytes bs = .ok (i, []))

/-- A few words written out from the `encoding` column. -/
def Obligations.SpecWordsDecodeToTheirInstructions : Prop :=
  decode3 0b00000000 0 0 = .nop ∧ decode3 0b00111100 0 0 = .incA ∧
  decode3 0b00100001 0xCD 0xAB = .ldHlN16 0xABCD ∧ decode3 0b01110110 0 0 = .halt ∧
  decode3 0b01001000 0 0 = .ldCB ∧ decode3 0b10011100 0 0 = .sbcAH ∧ decode3 0b11100000 0x44 0 = .ldhAtA8A 0x44 ∧
  decode3 0b11001101 0x34 0x12 = .callA16 0x1234 ∧ decode3 0b11001011 0b00110111 0 = .swapA ∧
  decode3 0b11001011 0b01110110 0 = .bit6AtHl ∧ decode3 0b11001011 0b10001110 0 = .res1AtHl ∧
  decode3 0b11111111 0 0 = .rst38 ∧ decode3 0b11010011 0 0 = .undefinedD3

/-! ## The step (30_encoding.md R158, 60_exceptions.md R475) -/

/-- When the bytes at PC are those of `i`, no fault is latched, the core does not wait, and no interrupt is taken, the step
is `exec i`, then the EI countdown, then the scheduler with the cycles `exec` returned. -/
def Obligations.StepRunsTheDecodedInstruction : Prop :=
  ∀ (i : Instr) (s : State), s.fault = none → ¬(s.halted = true ∧ s.pending = 0) → ¬(s.ime = true ∧ s.pending ≠ 0) →
    (∀ k (h : k < (encode i).length), s.read (s.pc + BitVec.ofNat 16 k) = (encode i)[k]) →
    step s = match exec i { s with halted := false } with
      | .next t => .next (sched t.cycles t.countdown)
      | .fault f => .fault f
      | .refused r => .refused r

/-- An instruction placed at PC is the one fetched there, wherever its three bytes have storage. -/
def Obligations.PlacedWordIsFetched : Prop :=
  ∀ (s : State) (nbits w : Nat) (i : Instr), decodeTableWord nbits w = some i → s.memoryOk = true →
    (∀ k < 3, region s.overlay (s.pc + BitVec.ofNat 16 k) ≠ .unusable ∧
      s.pc + BitVec.ofNat 16 k ≠ 0xFF41 ∧ s.pc + BitVec.ofNat 16 k ≠ 0xFF44) →
    (s.withFetchWord nbits w).fetch = i ∧ (s.withFetchWord nbits w).pc = s.pc

/-- R466, its first sentence: a halted step with nothing pending only advances the scheduler by 4 and returns 4. -/
def Obligations.HaltedStepOnlyAdvancesTheScheduler : Prop :=
  ∀ s : State, s.fault = none → s.halted = true → s.pending = 0 →
    step s = .next { s with gpu := (sched 4 s).gpu, mem := (sched 4 s).mem, cycles := 4 }

/-- R466, its second sentence: a halt with IE bit 0 set ends within one frame: at most 70224 / 4 waiting steps pass before
an enabled interrupt is pending. -/
def Obligations.HaltWithVblankEnabledEndsWithinOneFrame : Prop :=
  ∀ s : State, s.fault = none → s.halted = true → s.schedulerOk = true → s.memoryOk = true → s.ie.getLsbD 0 = true →
    ∃ n t, n ≤ 17556 ∧ Sys2Proof.core.run n s = .next t ∧ t.pending ≠ 0 ∧ t.halted = true ∧ t.regs = s.regs ∧ t.pc = s.pc

/-- R465: a halted step with something pending is the step of the same state not halted. -/
def Obligations.PendingInterruptWakesTheCore : Prop :=
  ∀ s : State, s.fault = none → s.halted = true → s.pending ≠ 0 → step s = step { s with halted := false }

/-- R451: what a raised fault leaves, and that it is sticky. That the state left comes with the fault is the model's choice
(log 5), and so is `cycles` kept in it (log 6); that a faulting dispatch keeps `ei_delay` is the reading of log 12. -/
def Obligations.RaisedFaultIsLatchedAndSticky : Prop :=
  ∀ (s : State) (f : Fault), step s = .fault f →
    f.left.fault = some f.record ∧ f.left.gpu = s.gpu ∧ f.left.eiDelay = s.eiDelay ∧ f.left.cycles = s.cycles ∧
    step f.left = .fault f ∧ (s.fault ≠ none → f.left = s)

/-- R450: a fault names the address of the opcode (or PC at the boundary), and each kind has the cause its row gives: the
write faults are raised by a bus write this step makes, a store of the fetched instruction or a push of the dispatch;
nothing raises `InvariantViolation`. -/
def Obligations.EachFaultHasItsCause : Prop :=
  ∀ (s : State) (f : Fault), s.fault = none → step s = .fault f →
    let writes := if s.ime = true ∧ s.pending ≠ 0 then s.pushed else s.fetch.stores s
    f.record.origin = s.pc ∧
    match f.record.kind with
    | .bankSwitch a _ => a ∈ writes ∧ a.toNat < 0x8000
    | .unusableWrite a _ => a ∈ writes ∧ 0xFEA0 ≤ a.toNat ∧ a.toNat < 0xFF00 ∧ s.launch.params.unusableWrite = .fault
    | .oamDma _ => 0xFF46 ∈ writes ∧ s.launch.params.dmaMode = .fault
    | .interruptDispatch p => s.launch.params.irqMode = .failLoudly ∧ s.ime = true ∧ p = s.pending ∧ p ≠ 0
    | .halt pc0 => pc0 = s.pc ∧ s.fetch = .halt ∧ s.launch.params.irqMode = .failLoudly
    | .haltBug pc0 => pc0 = s.pc ∧ s.fetch = .halt ∧ s.launch.params.irqMode = .standard ∧ s.ime = false ∧ s.pending ≠ 0
    | .stop pc0 => pc0 = s.pc ∧ ∃ n, s.fetch = .stop n
    | .invariantViolation _ => False

/-- R459 in `FailLoudly` mode: a boundary with IME = 1 and an enabled interrupt pending raises `InterruptDispatch`. That a
core halted before is left with `halted` 0 is deduced from R452, R465 and R475 (log 18); the state left comes with the fault
(log 5). -/
def Obligations.FailLoudlyBoundaryRaisesInterruptDispatch : Prop :=
  ∀ s : State, s.fault = none → s.ime = true → s.pending ≠ 0 → s.launch.params.irqMode = .failLoudly →
    step s = .fault (.interruptDispatch s.pending s.pc
      { s with halted := false, fault := some ⟨.interruptDispatch s.pending, s.pc⟩ })

/-- R457, R458, R460, R461: in `Standard` mode the lowest pending interrupt is taken. First for every SP: the step is a push
of PC from the state in which its request, IME and `halted` are 0, going on at its vector, and then 20 cycles given to the
scheduler. Then the outcome in full where both stack bytes are plain storage other than IF; where the second is in ROM, the
first having been written; and where the first is in ROM (R452). That dispatch keeps `ei_delay` is the reading of log 12,
that `halted` is 0 after a fault too is that of log 18, the state left comes with the fault (log 5), and VBLANK entry is read
off the model's own `frameSignals` (log 7). -/
def Obligations.StandardBoundaryDispatchesTheLowestInterrupt : Prop :=
  ∀ (s : State) (i : Nat), s.fault = none → s.ime = true → s.launch.params.irqMode = .standard →
    i < 5 → s.pending.getLsbD i = true → (∀ j < i, s.pending.getLsbD j = false) →
    let taken : State := { s with
      halted := false, ime := false, mem := s.mem.write 0xFF0F (s.iflag &&& ~~~((1 : Byte) <<< i)) }
    (step s = match pushOutcome taken s.pc 0 (0x0040 + BitVec.ofNat 16 (8 * i)) 20 with
      | .next t => .next (sched 20 t)
      | .fault f => .fault f
      | .refused r => .refused r) ∧
    (s.memoryOk = true → isPlain (s.sp - 1) = true → isPlain (s.sp - 2) = true →
      s.sp - 1 ≠ 0xFF0F → s.sp - 2 ≠ 0xFF0F →
      ∃ t, step s = .next t ∧ t.pc = 0x0040 + BitVec.ofNat 16 (8 * i) ∧ t.sp = s.sp - 2 ∧ t.ime = false ∧
        t.halted = false ∧ t.eiDelay = s.eiDelay ∧ t.regs = s.regs ∧ t.cycles = 20 ∧ t.fault = none ∧
        t.gpu = (sched 20 s).gpu ∧ t.read (s.sp - 1) = hiByte s.pc ∧ t.read (s.sp - 2) = loByte s.pc ∧
        (∀ j < 8, t.iflag.getLsbD j =
          ((s.iflag.getLsbD j && j != i) || (j == 0 && t.gpu.frameSignals != s.gpu.frameSignals)))) ∧
    (s.sp = 0x8001 →
      step s = .fault (.bankSwitch 0x7FFF (loByte s.pc) s.pc
        { taken with
          sp := 0x7FFF, mem := taken.mem.write 0x8000 (hiByte s.pc),
          fault := some ⟨.bankSwitch 0x7FFF (loByte s.pc), s.pc⟩ })) ∧
    ((s.sp - 1).toNat < 0x8000 →
      step s = .fault (.bankSwitch (s.sp - 1) (hiByte s.pc) s.pc
        { taken with sp := s.sp - 1, fault := some ⟨.bankSwitch (s.sp - 1) (hiByte s.pc), s.pc⟩ }))

/-- R424, R531 (and R39): EI leaves IME 0 for its own step; the next instruction's step sets it, unless it is DI. -/
def Obligations.EiTakesEffectAfterTheNextInstruction : Prop :=
  ∀ s : State, s.fault = none → s.halted = false → s.ime = false →
    (s.eiDelay = 0 → s.fetch = .ei → ∃ t, step s = .next t ∧ t.ime = false ∧ t.eiDelay = 1) ∧
    (s.eiDelay = 1 → ∀ u, exec s.fetch s = .next u → s.fetch ≠ .di →
      ∃ t, step s = .next t ∧ t.ime = true ∧ t.eiDelay = 0) ∧
    (s.fetch = .di → ∃ t, step s = .next t ∧ t.ime = false ∧ t.eiDelay = 0)

/-! ## Invariants: kept by every step, in the next state and in the state a fault leaves -/

/-- R33: after every step F[3:0] = 0. -/
def Obligations.FlagLowNibbleStaysZero : Prop :=
  ∀ s : State, s.lowNibbleClear = true → Ends (step s) fun t => t.lowNibbleClear = true

/-- Memory keeps its canonical form and lists storage only. -/
def Obligations.MemoryStaysCanonical : Prop :=
  ∀ s : State, s.memoryOk = true → Ends (step s) fun t => t.memoryOk = true

/-- R46: scanline and mode stay one point of the frame's sequence, and `acc` stays below the mode's duration. -/
def Obligations.SchedulerStaysInTheFrameSequence : Prop :=
  ∀ s : State, s.schedulerOk = true → Ends (step s) fun t => t.schedulerOk = true

/-- R461 and R40: `ei_delay` is 0 whenever IME is 1, and a `FailLoudly` core is never halted. -/
def Obligations.ControlBitsStayConsistent : Prop :=
  ∀ s : State, s.eiOk = true → s.haltOk = true → Ends (step s) fun t => t.eiOk = true ∧ t.haltOk = true

/-- R44, R42: no step writes a launch input, and none sets `overlay_enabled`. -/
def Obligations.LaunchInputsAndOverlayAreOneWay : Prop :=
  ∀ s : State, Ends (step s) fun t => t.launch = s.launch ∧ (s.overlay = false → t.overlay = false)

/-! ## Reset (70_reset_and_hazards.md) -/

/-- The invariants hold at reset, and of every state construction gives. -/
def Obligations.ResetMeetsTheInvariants : Prop :=
  State.reset.inv = true ∧ ∀ (x : LaunchInputs) (s : State), State.construct x = .ok s → s.inv = true

/-- R521 to R526: the reset state in both launches: the registers, the control state, the scheduler, every byte of vram,
eram, wram, oam, io, hram and IE, read on the bus, and the computed reads of LY and STAT. Then, that construction gives this
state of the host's `P_INIT`: of its cells for one address the first counts, and an address without one holds 0x00 (the
model's form of `P_INIT`, log 23). -/
def Obligations.ResetStateIsAsTheRulesGive : Prop :=
  (∀ (l : Launch) (x : Init) (m : LaunchMode),
    let s := State.build l m x
    (m = .bootOverlay → s.regs.a = x.regs.a ∧ s.regs.b = x.regs.b ∧ s.regs.c = x.regs.c ∧ s.regs.d = x.regs.d ∧
      s.regs.e = x.regs.e ∧ s.regs.h = x.regs.h ∧ s.regs.l = x.regs.l ∧ s.sp = x.sp ∧
      s.regs.f = x.regs.f.extractLsb' 4 4 ++ 0#4 ∧ s.pc = 0x0000 ∧ s.overlay = true) ∧
    (m = .postBoot → s.regs = ⟨0x01, 0xB0, 0x00, 0x13, 0x00, 0xD8, 0x01, 0x4D⟩ ∧ s.sp = 0xFFFE ∧ s.pc = 0x0100 ∧
      s.overlay = false) ∧
    s.ime = false ∧ s.eiDelay = 0 ∧ s.halted = false ∧ s.fault = none ∧
    s.gpu.mode = .oamRead ∧ s.gpu.scanline = 0 ∧ s.gpu.acc = 0 ∧ s.gpu.frames = 0 ∧
    (∀ a : Word, isStorage a.toNat = true → a ≠ 0xFF41 → a ≠ 0xFF44 → s.read a = x.mem.read a.toNat) ∧
    s.read 0xFF44 = 0 ∧ (s.read 0xFF41).extractLsb' 0 2 = 2#2 ∧
    ((s.read 0xFF41).getLsbD 2 = true ↔ x.mem.read 0xFF45 = 0) ∧
    (s.read 0xFF41).extractLsb' 3 5 = (x.mem.read 0xFF41).extractLsb' 3 5) ∧
  (∀ (y : LaunchInputs) (s : State), State.construct y = .ok s → ∃ l x,
    s = State.build l y.mode x ∧ l.params = y.params ∧ x.regs = y.init.regs ∧ x.sp = y.init.sp ∧
    ∀ k, isStorage k = true → x.mem.read k = (y.init.mem.lookup k).getD 0)

/-- R529, R104, R105: construction is refused exactly for a short cartridge or a boot image that is not 256 bytes; else
the low addresses read the boot image or the cartridge. -/
def Obligations.ConstructionChecksAndMapsTheImages : Prop :=
  ∀ x : LaunchInputs,
    ((∃ e, State.construct x = .error e) ↔ x.cart.length < 0x8000 ∨ x.boot.length ≠ 256) ∧
    ∀ s, State.construct x = .ok s → ∀ a : Word, a.toNat < 0x8000 →
      s.read a = if x.mode = .bootOverlay ∧ a.toNat < 0x100 then x.boot.getD a.toNat 0 else x.cart.getD a.toNat 0

/-! ## The bus (20_memory.md) -/

/-- R101, R102, R104, R105, R107, R108, R111 to R117: what a read returns, region by region. -/
def Obligations.BusReadsFollowTheAddressMap : Prop :=
  ∀ (s : State) (a : Word),
    (a.toNat < 0x100 → s.overlay = true → s.read a = s.launch.boot.read a.toNat) ∧
    (a.toNat < 0x8000 → (0x100 ≤ a.toNat ∨ s.overlay = false) → s.read a = s.launch.cart.read a.toNat) ∧
    (0x8000 ≤ a.toNat → a.toNat < 0xE000 → s.read a = s.mem.read a.toNat) ∧
    (0xE000 ≤ a.toNat → a.toNat < 0xFE00 → s.read a = s.mem.read (a.toNat - 0x2000)) ∧
    (0xFE00 ≤ a.toNat → a.toNat < 0xFEA0 → s.read a = s.mem.read a.toNat) ∧
    (0xFEA0 ≤ a.toNat → a.toNat < 0xFF00 → s.read a = 0xFF) ∧
    (0xFF00 ≤ a.toNat → a ≠ 0xFF41 → a ≠ 0xFF44 → s.read a = s.mem.read a.toNat) ∧
    (s.gpu.scanline < 256 → (s.read 0xFF44).toNat = s.gpu.scanline) ∧
    ((s.read 0xFF41).extractLsb' 3 5 = (s.mem.read 0xFF41).extractLsb' 3 5 ∧
      ((s.read 0xFF41).getLsbD 2 = true ↔ s.gpu.scanline = (s.mem.read 0xFF45).toNat) ∧
      (s.read 0xFF41).extractLsb' 0 2 = s.gpu.mode.sel 2#2 3#2 0#2 1#2)

/-- R103, R106, R109, R110, R112, R113, R116, R117: what a write does, region by region (a write of DMA in `Copy` mode has
a statement of its own). -/
def Obligations.BusWritesFollowTheAddressMap : Prop :=
  ∀ (s : State) (a : Word) (v : Byte),
    (a.toNat < 0x8000 → s.write a v = .raise (.bankSwitch a v) s) ∧
    (0xFEA0 ≤ a.toNat → a.toNat < 0xFF00 → s.write a v = match s.launch.params.unusableWrite with
      | .fault => .raise (.unusableWrite a v) s
      | .ignore => .done s) ∧
    (isPlain a = true → ∃ m, s.write a v = .done { s with mem := m }) ∧
    (∃ m, s.write 0xFF04 v = .done { s with mem := m } ∧ (s.memoryOk = true → m.read 0xFF04 = 0)) ∧
    s.write 0xFF44 v = .done s ∧
    (∃ m, s.write 0xFF41 v = .done { s with mem := m } ∧ (s.memoryOk = true → m.read 0xFF41 = v)) ∧
    (∃ m, s.write 0xFF50 v = .done { s with mem := m, overlay := s.overlay && v != 1 } ∧
      (s.memoryOk = true → m.read 0xFF50 = v)) ∧
    (s.launch.params.dmaMode = .fault → s.write 0xFF46 v = .raise (.oamDma v) s) ∧
    (s.launch.params.dmaMode = .storage → ∃ m, s.write 0xFF46 v = .done { s with mem := m } ∧
      (s.memoryOk = true → m.read 0xFF46 = v))

/-- R103, R107, R122: a plain byte reads back as written, through the echo too, and a write changes no other read than
those `reaches` names. -/
def Obligations.WritesReadBackAndReachNothingElse : Prop :=
  ∀ (s t : State) (a : Word) (v : Byte), s.write a v = .done t →
    (s.memoryOk = true → isPlain a = true → t.read a = v) ∧
    (s.memoryOk = true → 0xC000 ≤ a.toNat → a.toNat < 0xDE00 → t.read (a + 0x2000) = v) ∧
    (s.memoryOk = true → 0xE000 ≤ a.toNat → a.toNat < 0xFE00 → t.read (a - 0x2000) = v) ∧
    (∀ b, s.reaches a b = false → t.read b = s.read b)

/-- R116, `Copy`: OAM gets the 160 bytes a read of `v * 0x100 + i` gives once DMA holds `v`, and nothing else changes. -/
def Obligations.OamDmaCopiesThePage : Prop :=
  ∀ (s : State) (v : Byte), s.launch.params.dmaMode = .copy → s.memoryOk = true →
    ∃ m, s.write 0xFF46 v = .done { s with mem := m } ∧ m.read 0xFF46 = v ∧
      (∀ i < 160, m.read (0xFE00 + i) = (s.setByte 0xFF46 v).read (BitVec.ofNat 16 (v.toNat * 256 + i))) ∧
      ∀ k, k ≠ 0xFF46 → (k < 0xFE00 ∨ 0xFEA0 ≤ k) → m.read k = s.mem.read k

/-- R200, R201: what PUSH stores, POP of the same pair gives back; RET returns to the address after a CALL. Stated where
the two stack bytes are plain storage, and F's low nibble is 0. -/
def Obligations.StackRoundTrips : Prop :=
  ∀ s : State, s.memoryOk = true → s.lowNibbleClear = true → isPlain (s.sp - 1) = true → isPlain (s.sp - 2) = true →
    (∀ p : RStk, ∃ t u, exec (.ofPush p) s = .next t ∧ exec (.ofPop p) t = .next u ∧ u.regs = s.regs ∧ u.sp = s.sp ∧
      t.sp = s.sp - 2) ∧
    (∀ a : Word, ∃ t u, exec (.callA16 a) s = .next t ∧ exec .ret t = .next u ∧ t.pc = a ∧ u.pc = s.pc + 3 ∧
      u.sp = s.sp ∧ t.read t.sp = loByte (s.pc + 3) ∧ t.read (t.sp + 1) = hiByte (s.pc + 3))

/-! ## The scheduler (60_exceptions.md R468 to R474) -/

/-- R469: cycles are carried forward, never discarded: giving them in two parts is giving them at once. -/
def Obligations.SchedulerCarriesCyclesForward : Prop :=
  ∀ (s : State) (c d : Nat), sched (c + d) s = sched d (sched c s)

/-- R468 to R471: where the time left in the mode is `d`, fewer cycles only accumulate, and `d` cycles make the one
transition its rule gives. -/
def Obligations.SchedulerFollowsTheModeSequence : Prop :=
  ∀ s : State, s.schedulerOk = true → ∀ left : Nat, s.gpu.acc + left = s.gpu.mode.sel 80 172 204 456 →
    (∀ c < left, sched c s = { s with gpu := { s.gpu with acc := s.gpu.acc + c } }) ∧
    (sched left s).gpu.acc = 0 ∧
    (s.gpu.mode = .oamRead → (sched left s).gpu.mode = .vramRead ∧ (sched left s).gpu.scanline = s.gpu.scanline) ∧
    (s.gpu.mode = .vramRead → (sched left s).gpu.mode = .hblank ∧ (sched left s).gpu.scanline = s.gpu.scanline) ∧
    (s.gpu.mode = .hblank → (sched left s).gpu.scanline = s.gpu.scanline + 1 ∧
      (sched left s).gpu.mode = if s.gpu.scanline = 143 then .vblank else .oamRead) ∧
    (s.gpu.mode = .vblank → (sched left s).gpu.scanline = (s.gpu.scanline + 1) % 154 ∧
      (sched left s).gpu.mode = if s.gpu.scanline = 153 then .oamRead else .vblank)

/-- The source's property behind R468 to R474 (95_test_vectors.md E9): from OAM_READ, line 0, after 144 quanta of 456
cycles the mode is VBLANK and the VBlank request is set; after 154 the mode is OAM_READ on line 0, with one more frame and
one more frame-complete signal. -/
def Obligations.FrameOf154LinesCountsOneFrame : Prop :=
  ∀ s : State, s.gpu.mode = .oamRead → s.gpu.scanline = 0 → s.gpu.acc = 0 → s.memoryOk = true →
    let t := Nat.repeat (sched 456) 144 s
    let u := Nat.repeat (sched 456) 154 s
    t.gpu.mode = .vblank ∧ t.gpu.scanline = 144 ∧ t.gpu.acc = 0 ∧ t.gpu.frameSignals = s.gpu.frameSignals + 1 ∧
    t.iflag.getLsbD 0 = true ∧
    t.gpu.frames = s.gpu.frames + (if s.launch.params.frameCountPoint = .vblankEntry then 1 else 0) ∧
    u.gpu.mode = .oamRead ∧ u.gpu.scanline = 0 ∧ u.gpu.acc = 0 ∧ u.gpu.frames = s.gpu.frames + 1 ∧
    u.gpu.frameSignals = s.gpu.frameSignals + 1

/-- R473, R474: the scheduler writes only its own state and IF bit 0, which it sets with each frame-complete signal. -/
def Obligations.SchedulerWritesOnlyItsStateAndVblankRequest : Prop :=
  ∀ (s : State) (c : Nat), ∃ g m, sched c s = { s with gpu := g, mem := m } ∧
    (∀ k, k ≠ 0xFF0F → m.read k = s.mem.read k) ∧
    (g.frameSignals = s.gpu.frameSignals → m = s.mem) ∧
    (s.memoryOk = true → ∀ j < 8, (m.read 0xFF0F).getLsbD j =
      ((s.mem.read 0xFF0F).getLsbD j || (j == 0 && g.frameSignals != s.gpu.frameSignals)))

/-! ## Loads, stores and the stack (40_load.md) -/

/-- R202, R203, R205: LD of a register from a register, `(HL)` or an immediate. -/
def Obligations.LoadsOfARegister : Prop :=
  ∀ (s : State) (y z : R8) (n : Byte), y ≠ .mem →
    encode (.ofLd y z) = [(1#2 ++ y.code ++ z.code : BitVec 8)] ∧
    exec (.ofLd y z) s =
      .next { s with regs := s.regs.put y (s.operand z), pc := s.pc + 1, cycles := regOrMem z 4 8 } ∧
    encode (.ofLdImm y n) = [(0#2 ++ y.code ++ 6#3 : BitVec 8), n] ∧
    exec (.ofLdImm y n) s = .next { s with regs := s.regs.put y n, pc := s.pc + 2, cycles := 8 }

/-- R204, R206, R209 to R212, R216, R218, R220: the one-byte stores, with the address and the byte each writes, and HL
stepped only where the write succeeds. -/
def Obligations.OneByteStores : Prop :=
  ∀ (s : State) (z : R8) (n : Byte) (a : Word),
    let hl : Word := s.regs.h ++ s.regs.l
    let stepped (v : Word) : Regs := { s.regs with h := v.extractLsb' 8 8, l := v.extractLsb' 0 8 }
    (z ≠ .mem → encode (.ofLd .mem z) = [(0b01110#5 ++ z.code : BitVec 8)] ∧
      exec (.ofLd .mem z) s = storeOutcome s hl (s.operand z) 1 8 s.regs) ∧
    (encode (.ldAtHlN8 n) = [0x36, n] ∧ exec (.ldAtHlN8 n) s = storeOutcome s hl n 2 12 s.regs) ∧
    (encode .ldAtBcA = [0x02] ∧ exec .ldAtBcA s = storeOutcome s (s.regs.b ++ s.regs.c) s.regs.a 1 8 s.regs) ∧
    (encode .ldAtDeA = [0x12] ∧ exec .ldAtDeA s = storeOutcome s (s.regs.d ++ s.regs.e) s.regs.a 1 8 s.regs) ∧
    (encode .ldAtHliA = [0x22] ∧ exec .ldAtHliA s = storeOutcome s hl s.regs.a 1 8 (stepped (hl + 1))) ∧
    (encode .ldAtHldA = [0x32] ∧ exec .ldAtHldA s = storeOutcome s hl s.regs.a 1 8 (stepped (hl - 1))) ∧
    (encode (.ldAtA16A a) = [0xEA, a.extractLsb' 0 8, a.extractLsb' 8 8] ∧
      exec (.ldAtA16A a) s = storeOutcome s a s.regs.a 3 16 s.regs) ∧
    (encode (.ldhAtA8A n) = [0xE0, n] ∧ exec (.ldhAtA8A n) s = storeOutcome s (0xFF#8 ++ n) s.regs.a 2 12 s.regs) ∧
    (encode .ldAtCA = [0xE2] ∧ exec .ldAtCA s = storeOutcome s (0xFF#8 ++ s.regs.c) s.regs.a 1 8 s.regs)

/-- R207, R208, R213, R214, R215, R217, R219: the loads of A from memory. -/
def Obligations.LoadsOfAFromMemory : Prop :=
  ∀ (s : State) (n : Byte) (a : Word),
    let hl : Word := s.regs.h ++ s.regs.l
    let stepped (v : Word) : Regs := { s.regs with a := s.read hl, h := v.extractLsb' 8 8, l := v.extractLsb' 0 8 }
    (encode .ldAAtBc = [0x0A] ∧ exec .ldAAtBc s =
      .next { s with regs := { s.regs with a := s.read (s.regs.b ++ s.regs.c) }, pc := s.pc + 1, cycles := 8 }) ∧
    (encode .ldAAtDe = [0x1A] ∧ exec .ldAAtDe s =
      .next { s with regs := { s.regs with a := s.read (s.regs.d ++ s.regs.e) }, pc := s.pc + 1, cycles := 8 }) ∧
    (encode .ldAAtHli = [0x2A] ∧
      exec .ldAAtHli s = .next { s with regs := stepped (hl + 1), pc := s.pc + 1, cycles := 8 }) ∧
    (encode .ldAAtHld = [0x3A] ∧
      exec .ldAAtHld s = .next { s with regs := stepped (hl - 1), pc := s.pc + 1, cycles := 8 }) ∧
    (encode (.ldAAtA16 a) = [0xFA, a.extractLsb' 0 8, a.extractLsb' 8 8] ∧ exec (.ldAAtA16 a) s =
      .next { s with regs := { s.regs with a := s.read a }, pc := s.pc + 3, cycles := 16 }) ∧
    (encode (.ldhAAtA8 n) = [0xF0, n] ∧ exec (.ldhAAtA8 n) s =
      .next { s with regs := { s.regs with a := s.read (0xFF#8 ++ n) }, pc := s.pc + 2, cycles := 12 }) ∧
    (encode .ldAAtC = [0xF2] ∧ exec .ldAAtC s =
      .next { s with regs := { s.regs with a := s.read (0xFF#8 ++ s.regs.c) }, pc := s.pc + 1, cycles := 8 })

/-- R221, R222, R223: the 16-bit loads; LD (a16),SP writes the low byte at `a16`, then the high byte at `a16 + 1`. -/
def Obligations.SixteenBitLoads : Prop :=
  ∀ (s : State) (p : R16) (v : Word),
    encode (.ofLdPair p v) = [(0#2 ++ p.code ++ 1#4 : BitVec 8), v.extractLsb' 0 8, v.extractLsb' 8 8] ∧
    SetsPair (exec (.ofLdPair p v) s) s p v 3 12 ∧
    encode .ldSpHl = [0xF9] ∧
    exec .ldSpHl s = .next { s with sp := s.regs.h ++ s.regs.l, pc := s.pc + 1, cycles := 8 } ∧
    encode (.ldAtA16Sp v) = [0x08, v.extractLsb' 0 8, v.extractLsb' 8 8] ∧
    exec (.ldAtA16Sp v) s = (match s.write v (s.sp.extractLsb' 0 8) with
      | .raise k t => raiseFault k s.pc { t with pc := s.pc + 3 }
      | .done t => match t.write (v + 1) (s.sp.extractLsb' 8 8) with
        | .raise k u => raiseFault k s.pc { u with pc := s.pc + 3 }
        | .done u => .next { u with pc := s.pc + 3, cycles := 20 })

/-- R224, R225, R226 with the stack primitives R200, R201. -/
def Obligations.PushAndPop : Prop :=
  ∀ (s : State) (p : RStk),
    let lo := s.read s.sp
    let hi := s.read (s.sp + 1)
    encode (.ofPush p) = [(3#2 ++ p.code ++ 5#4 : BitVec 8)] ∧
    exec (.ofPush p) s = pushOutcome s (match p with
      | .bc => s.regs.b ++ s.regs.c
      | .de => s.regs.d ++ s.regs.e
      | .hl => s.regs.h ++ s.regs.l
      | .af => s.regs.a ++ s.regs.f) 1 (s.pc + 1) 16 ∧
    encode (.ofPop p) = [(3#2 ++ p.code ++ 1#4 : BitVec 8)] ∧
    exec (.ofPop p) s = .next { s with
      regs := (match p with
        | .bc => { s.regs with b := hi, c := lo }
        | .de => { s.regs with d := hi, e := lo }
        | .hl => { s.regs with h := hi, l := lo }
        | .af => { s.regs with a := hi, f := lo.extractLsb' 4 4 ++ 0#4 }),
      sp := s.sp + 2, pc := s.pc + 1, cycles := 12 }

/-! ## 8-bit arithmetic and logic (41_alu8.md) -/

/-- R250, R252 to R257: ADD and ADC. -/
def Obligations.AddAndAddWithCarry : Prop :=
  ∀ (s : State) (z : R8) (n : Byte) (carry : Bool),
    let op := if carry then AluOp.adc else AluOp.add
    let cin : Nat := if carry && s.cf then 1 else 0
    let sum (v a f : Byte) : Prop :=
      a.toNat = (s.regs.a.toNat + v.toNat + cin) % 256 ∧
      FlagsAre f (a = 0) False (s.regs.a.toNat % 16 + v.toNat % 16 + cin > 0xF) (s.regs.a.toNat + v.toNat + cin > 0xFF)
    encode (.ofAlu op z) = [(2#2 ++ op.code ++ z.code : BitVec 8)] ∧
    SetsAF (exec (.ofAlu op z) s) s 1 (regOrMem z 4 8) (sum (s.operand z)) ∧
    encode (.ofAluImm op n) = [(3#2 ++ op.code ++ 6#3 : BitVec 8), n] ∧
    SetsAF (exec (.ofAluImm op n) s) s 2 8 (sum n)

/-- R251, R258 to R263, R273 to R275: SUB, SBC and CP, which keeps A. -/
def Obligations.SubtractAndCompare : Prop :=
  ∀ (s : State) (z : R8) (n : Byte) (op : AluOp), op = .sub ∨ op = .sbc ∨ op = .cp →
    let cin : Nat := if op = .sbc ∧ s.cf = true then 1 else 0
    let difference (v a f : Byte) : Prop :=
      let d := BitVec.ofInt 8 ((s.regs.a.toNat : Int) - v.toNat - cin)
      a = (if op = .cp then s.regs.a else d) ∧
      FlagsAre f (d = 0) True (s.regs.a.toNat % 16 < v.toNat % 16 + cin) (s.regs.a.toNat < v.toNat + cin)
    encode (.ofAlu op z) = [(2#2 ++ op.code ++ z.code : BitVec 8)] ∧
    SetsAF (exec (.ofAlu op z) s) s 1 (regOrMem z 4 8) (difference (s.operand z)) ∧
    encode (.ofAluImm op n) = [(3#2 ++ op.code ++ 6#3 : BitVec 8), n] ∧
    SetsAF (exec (.ofAluImm op n) s) s 2 8 (difference n)

/-- R264 to R272: AND, XOR and OR. -/
def Obligations.LogicOperations : Prop :=
  ∀ (s : State) (z : R8) (n : Byte) (op : AluOp), op = .and ∨ op = .xor ∨ op = .or →
    let result (v a f : Byte) : Prop :=
      (∀ j < 8, a.getLsbD j = (match op with
        | .and => s.regs.a.getLsbD j && v.getLsbD j
        | .xor => s.regs.a.getLsbD j != v.getLsbD j
        | _ => s.regs.a.getLsbD j || v.getLsbD j)) ∧
      FlagsAre f (a = 0) False (op = .and) False
    encode (.ofAlu op z) = [(2#2 ++ op.code ++ z.code : BitVec 8)] ∧
    SetsAF (exec (.ofAlu op z) s) s 1 (regOrMem z 4 8) (result (s.operand z)) ∧
    encode (.ofAluImm op n) = [(3#2 ++ op.code ++ 6#3 : BitVec 8), n] ∧
    SetsAF (exec (.ofAluImm op n) s) s 2 8 (result n)

/-- R276, R278: INC and DEC of a register. -/
def Obligations.IncrementAndDecrementOfARegister : Prop :=
  ∀ (s : State) (y : R8), y ≠ .mem →
    let v := s.operand y
    encode (.ofInc y) = [(0#2 ++ y.code ++ 4#3 : BitVec 8)] ∧
    SetsRF (exec (.ofInc y) s) s y 1 4 (fun w f =>
      w.toNat = (v.toNat + 1) % 256 ∧ FlagsAre f (w = 0) False (v.toNat % 16 = 0xF) (s.cf = true)) ∧
    encode (.ofDec y) = [(0#2 ++ y.code ++ 5#3 : BitVec 8)] ∧
    SetsRF (exec (.ofDec y) s) s y 1 4 (fun w f =>
      w.toNat = (v.toNat + 255) % 256 ∧ FlagsAre f (w = 0) True (v.toNat % 16 = 0) (s.cf = true))

/-- R277, R279: INC (HL) and DEC (HL); a faulting write leaves the flags unchanged. -/
def Obligations.IncrementAndDecrementOfMemory : Prop :=
  ∀ s : State,
    let hl : Word := s.regs.h ++ s.regs.l
    let v := s.read hl
    encode .incAtHl = [0x34] ∧ encode .decAtHl = [0x35] ∧
    (∃ f, FlagsAre f (v = 0xFF) False (v.toNat % 16 = 0xF) (s.cf = true) ∧
      exec .incAtHl s = storeOutcome s hl (BitVec.ofNat 8 (v.toNat + 1)) 1 12 { s.regs with f := f }) ∧
    (∃ f, FlagsAre f (v = 1) True (v.toNat % 16 = 0) (s.cf = true) ∧
      exec .decAtHl s = storeOutcome s hl (BitVec.ofNat 8 (v.toNat + 255)) 1 12 { s.regs with f := f })

/-- R280 (in the form of 92_eei_decisions.md D30) to R283: DAA, CPL, SCF and CCF. -/
def Obligations.AccumulatorAdjustments : Prop :=
  ∀ s : State,
    let low : Nat := if s.hf = true ∨ (s.nf = false ∧ s.regs.a.toNat % 16 > 9) then 0x06 else 0
    let high : Nat := if s.cf = true ∨ (s.nf = false ∧ s.regs.a.toNat > 0x99) then 0x60 else 0
    encode .daa = [0x27] ∧ encode .cpl = [0x2F] ∧ encode .scf = [0x37] ∧ encode .ccf = [0x3F] ∧
    SetsAF (exec .daa s) s 1 4 (fun a f =>
      a = BitVec.ofInt 8 (if s.nf = true then (s.regs.a.toNat : Int) - low - high else s.regs.a.toNat + low + high) ∧
      FlagsAre f (a = 0) (s.nf = true) False (high ≠ 0)) ∧
    SetsAF (exec .cpl s) s 1 4 (fun a f =>
      a.toNat = 255 - s.regs.a.toNat ∧ FlagsAre f (s.zf = true) True True (s.cf = true)) ∧
    SetsAF (exec .scf s) s 1 4 (fun a f => a = s.regs.a ∧ FlagsAre f (s.zf = true) False False True) ∧
    SetsAF (exec .ccf s) s 1 4 (fun a f => a = s.regs.a ∧ FlagsAre f (s.zf = true) False False (s.cf = false))

/-- What R280 is for: after ADD, ADC, SUB or SBC of two BCD bytes, DAA gives the BCD result and its decimal carry or
borrow. -/
def Obligations.DaaMakesBcdArithmeticDecimal : Prop :=
  ∀ (s : State) (x y : Nat) (op : AluOp), x < 100 → y < 100 → s.regs.a = bcd x →
    op = .add ∨ op = .adc ∨ op = .sub ∨ op = .sbc →
    let cin : Nat := if (op = .adc ∨ op = .sbc) ∧ s.cf = true then 1 else 0
    ∃ t u, exec (.ofAluImm op (bcd y)) s = .next t ∧ exec .daa t = .next u ∧
      (op = .add ∨ op = .adc → u.regs.a = bcd ((x + y + cin) % 100) ∧ (u.cf = true ↔ 100 ≤ x + y + cin)) ∧
      (op = .sub ∨ op = .sbc → u.regs.a = bcd ((x + 100 - y - cin) % 100) ∧ (u.cf = true ↔ x < y + cin))

/-! ## 16-bit arithmetic (42_alu16.md) -/

/-- R301, R302, R303: ADD HL,rr with its half-carry out of bit 11, INC rr and DEC rr. -/
def Obligations.PairArithmetic : Prop :=
  ∀ (s : State) (p : R16),
    let hl := s.regs.h.toNat * 256 + s.regs.l.toNat
    let v := (s.pairValue p).toNat
    encode (.ofAddHl p) = [(0#2 ++ p.code ++ 9#4 : BitVec 8)] ∧
    encode (.ofIncPair p) = [(0#2 ++ p.code ++ 3#4 : BitVec 8)] ∧
    encode (.ofDecPair p) = [(0#2 ++ p.code ++ 0xB#4 : BitVec 8)] ∧
    (∃ h l f, exec (.ofAddHl p) s =
        .next { s with regs := { s.regs with h := h, l := l, f := f }, pc := s.pc + 1, cycles := 8 } ∧
      h.toNat * 256 + l.toNat = (hl + v) % 65536 ∧
      FlagsAre f (s.zf = true) False (hl % 0x1000 + v % 0x1000 > 0xFFF) (hl + v > 0xFFFF)) ∧
    SetsPair (exec (.ofIncPair p) s) s p (s.pairValue p + 1) 1 8 ∧
    SetsPair (exec (.ofDecPair p) s) s p (s.pairValue p - 1) 1 8

/-- R300, R304, R305: the sum of SP and a signed byte, with the flags of the unsigned low-byte add. -/
def Obligations.StackPointerOffset : Prop :=
  ∀ (s : State) (e : Byte),
    let v : Word := BitVec.ofInt 16 ((s.sp.toNat : Int) + e.toInt)
    let flags (f : Byte) : Prop :=
      FlagsAre f False False (s.sp.toNat % 16 + e.toNat % 16 > 0xF) (s.sp.toNat % 256 + e.toNat > 0xFF)
    encode (.addSpE8 e) = [0xE8, e] ∧ encode (.ldHlSpE8 e) = [0xF8, e] ∧
    (∃ f, exec (.addSpE8 e) s =
      .next { s with regs := { s.regs with f := f }, sp := v, pc := s.pc + 2, cycles := 16 } ∧ flags f) ∧
    (∃ f, exec (.ldHlSpE8 e) s = .next { s with
      regs := { s.regs with h := v.extractLsb' 8 8, l := v.extractLsb' 0 8, f := f }, pc := s.pc + 2, cycles := 12 } ∧
      flags f)

/-! ## Rotates, shifts and bits (43_rotate_shift_bit.md) -/

/-- R330 to R333: the accumulator rotates, bit by bit, with Z forced to 0. -/
def Obligations.AccumulatorRotates : Prop :=
  ∀ s : State,
    let a := s.regs.a
    let left (cin : Bool) (w f : Byte) : Prop :=
      (∀ j < 8, w.getLsbD j = if j = 0 then cin else a.getLsbD (j - 1)) ∧
        FlagsAre f False False False (a.getLsbD 7 = true)
    let right (cin : Bool) (w f : Byte) : Prop :=
      (∀ j < 8, w.getLsbD j = if j = 7 then cin else a.getLsbD (j + 1)) ∧
        FlagsAre f False False False (a.getLsbD 0 = true)
    encode .rlca = [0x07] ∧ encode .rrca = [0x0F] ∧ encode .rla = [0x17] ∧ encode .rra = [0x1F] ∧
    SetsAF (exec .rlca s) s 1 4 (left (a.getLsbD 7)) ∧ SetsAF (exec .rrca s) s 1 4 (right (a.getLsbD 0)) ∧
    SetsAF (exec .rla s) s 1 4 (left s.cf) ∧ SetsAF (exec .rra s) s 1 4 (right s.cf)

/-- R335, R337, R339, R341, R343, R345, R347, R349: the CB rotates and shifts of a register. -/
def Obligations.RotatesAndShiftsOfARegister : Prop :=
  ∀ (s : State) (op : RotOp) (z : R8), z ≠ .mem →
    encode (.ofRot op z) = [0xCB, (0#2 ++ op.code ++ z.code : BitVec 8)] ∧
    ∃ c, SetsRF (exec (.ofRot op z) s) s z 2 8 (fun w f =>
      rotated op (s.operand z) s.cf w c ∧ FlagsAre f (w = 0) False False (c = true))

/-- R336, R338, R340, R342, R344, R346, R348, R350: the CB rotates and shifts of the byte at HL; a faulting write leaves
the flags unchanged. -/
def Obligations.RotatesAndShiftsOfMemory : Prop :=
  ∀ (s : State) (op : RotOp),
    let hl : Word := s.regs.h ++ s.regs.l
    encode (.ofRot op .mem) = [0xCB, (0#2 ++ op.code ++ 6#3 : BitVec 8)] ∧
    ∃ w c f, rotated op (s.read hl) s.cf w c ∧ FlagsAre f (w = 0) False False (c = true) ∧
      exec (.ofRot op .mem) s = storeOutcome s hl w 2 16 { s.regs with f := f }

/-- R351, R352: BIT, whose Z is the complement of the tested bit. -/
def Obligations.BitTests : Prop :=
  ∀ (s : State) (b : BitVec 3) (z : R8),
    encode (.ofBit b z) = [0xCB, (1#2 ++ b ++ z.code : BitVec 8)] ∧
    ∃ f, exec (.ofBit b z) s =
        .next { s with regs := { s.regs with f := f }, pc := s.pc + 2, cycles := regOrMem z 8 12 } ∧
      FlagsAre f ((s.operand z).getLsbD b.toNat = false) False True (s.cf = true)

/-- R353 to R356: RES and SET change the one bit and no flag. -/
def Obligations.BitResetsAndSets : Prop :=
  ∀ (s : State) (b : BitVec 3) (z : R8) (set : Bool),
    let i := if set then Instr.ofSet b z else Instr.ofRes b z
    encode i = [0xCB, ((if set then 3#2 else 2#2) ++ b ++ z.code : BitVec 8)] ∧
    ∃ w : Byte, (∀ j < 8, w.getLsbD j = if j = b.toNat then set else (s.operand z).getLsbD j) ∧
      exec i s = if z = .mem then storeOutcome s (s.regs.h ++ s.regs.l) w 2 16 s.regs
        else .next { s with regs := s.regs.put z w, pc := s.pc + 2, cycles := 8 }

/-! ## Jumps, calls and returns (44_control.md) -/

/-- R380 to R385: the jumps. -/
def Obligations.Jumps : Prop :=
  ∀ (s : State) (cc : Cond) (a : Word) (e : Byte),
    let rel : Word := BitVec.ofInt 16 ((s.pc.toNat : Int) + 2 + e.toInt)
    encode (.jpA16 a) = [0xC3, a.extractLsb' 0 8, a.extractLsb' 8 8] ∧
    exec (.jpA16 a) s = .next { s with pc := a, cycles := 16 } ∧
    encode (.ofJp cc a) = [(6#3 ++ cc.code ++ 2#3 : BitVec 8), a.extractLsb' 0 8, a.extractLsb' 8 8] ∧
    exec (.ofJp cc a) s = .next (if s.met cc then { s with pc := a, cycles := 16 }
      else { s with pc := s.pc + 3, cycles := 12 }) ∧
    encode .jpHl = [0xE9] ∧ exec .jpHl s = .next { s with pc := s.regs.h ++ s.regs.l, cycles := 4 } ∧
    encode (.jrE8 e) = [0x18, e] ∧ exec (.jrE8 e) s = .next { s with pc := rel, cycles := 12 } ∧
    encode (.ofJr cc e) = [(1#3 ++ cc.code ++ 0#3 : BitVec 8), e] ∧
    exec (.ofJr cc e) s = .next (if s.met cc then { s with pc := rel, cycles := 12 }
      else { s with pc := s.pc + 2, cycles := 8 })

/-- R386, R387, R391: CALL, CALL cc and RST push the address of the next instruction. -/
def Obligations.CallsAndRestarts : Prop :=
  ∀ (s : State) (cc : Cond) (a : Word) (y : BitVec 3),
    encode (.callA16 a) = [0xCD, a.extractLsb' 0 8, a.extractLsb' 8 8] ∧
    exec (.callA16 a) s = pushOutcome s (s.pc + 3) 3 a 24 ∧
    encode (.ofCall cc a) = [(6#3 ++ cc.code ++ 4#3 : BitVec 8), a.extractLsb' 0 8, a.extractLsb' 8 8] ∧
    exec (.ofCall cc a) s = (if s.met cc then pushOutcome s (s.pc + 3) 3 a 24
      else .next { s with pc := s.pc + 3, cycles := 12 }) ∧
    encode (.ofRst y) = [(3#2 ++ y ++ 7#3 : BitVec 8)] ∧
    exec (.ofRst y) s = pushOutcome s (s.pc + 1) 1 (BitVec.ofNat 16 (y.toNat * 8)) 16

/-- R388, R389, R390: RET, RET cc and RETI. -/
def Obligations.Returns : Prop :=
  ∀ (s : State) (cc : Cond),
    let target : Word := s.read (s.sp + 1) ++ s.read s.sp
    encode .ret = [0xC9] ∧ exec .ret s = .next { s with pc := target, sp := s.sp + 2, cycles := 16 } ∧
    encode (.ofRet cc) = [(6#3 ++ cc.code ++ 0#3 : BitVec 8)] ∧
    exec (.ofRet cc) s = .next (if s.met cc then { s with pc := target, sp := s.sp + 2, cycles := 20 }
      else { s with pc := s.pc + 1, cycles := 8 }) ∧
    encode .reti = [0xD9] ∧
    exec .reti s = .next { s with pc := target, sp := s.sp + 2, ime := true, eiDelay := 0, cycles := 16 }

/-! ## System instructions (45_system.md) -/

/-- R420, R423, R425, and EI's own effect (R424): NOP, DI, the undefined opcodes and EI. -/
def Obligations.NopUndefinedDiAndEi : Prop :=
  ∀ (s : State) (u : Undef),
    encode .nop = [0x00] ∧ exec .nop s = .next { s with pc := s.pc + 1, cycles := 4 } ∧
    encode (.ofUndef u) = [u.opcode] ∧ exec (.ofUndef u) s = .next { s with pc := s.pc + 1, cycles := 0 } ∧
    encode .di = [0xF3] ∧ exec .di s = .next { s with ime := false, eiDelay := 0, pc := s.pc + 1, cycles := 4 } ∧
    encode .ei = [0xFB] ∧ exec .ei s = .next { s with
      eiDelay := if s.ime = false ∧ s.eiDelay = 0 then 2 else s.eiDelay, pc := s.pc + 1, cycles := 4 }

/-- R421, R422: HALT in each mode and case, and STOP, which always faults. -/
def Obligations.HaltAndStop : Prop :=
  ∀ (s : State) (n : Byte),
    encode .halt = [0x76] ∧
    (s.launch.params.irqMode = .standard → s.pending = 0 →
      exec .halt s = .next { s with halted := true, pc := s.pc + 1, cycles := 4 }) ∧
    (s.launch.params.irqMode = .standard → s.pending ≠ 0 → s.ime = true →
      exec .halt s = .next { s with pc := s.pc + 1, cycles := 4 }) ∧
    (s.launch.params.irqMode = .standard → s.pending ≠ 0 → s.ime = false →
      exec .halt s = .fault (.haltBug s.pc s.pc { s with pc := s.pc + 1, fault := some ⟨.haltBug s.pc, s.pc⟩ })) ∧
    (s.launch.params.irqMode = .failLoudly →
      exec .halt s = .fault (.halt s.pc s.pc { s with pc := s.pc + 1, fault := some ⟨.halt s.pc, s.pc⟩ })) ∧
    encode (.stop n) = [0x10, n] ∧
    exec (.stop n) s = .fault (.stop s.pc s.pc { s with pc := s.pc + 2, fault := some ⟨.stop s.pc, s.pc⟩ })

/-! ## Every instruction -/

/-- Every instruction but HALT and STOP completes exactly where each byte it stores can be written: its only faults are
the write faults (20_memory.md R109, R110, R116; 40_load.md). -/
def Obligations.InstructionsCompleteExactlyWhereTheirStoresCan : Prop :=
  ∀ (i : Instr) (s : State), i ≠ .halt → (∀ n, i ≠ .stop n) →
    ((∃ t, exec i s = .next t) ↔ ∀ a ∈ i.stores s, s.storable a = true)

/-- R13, R35: each instruction changes the flags as the flag string of its row says. -/
def Obligations.FlagStringsAreComplete : Prop :=
  ∀ (i : Instr) (s t : State), exec i s = .next t →
    i.descriptor.flags.z.allows s.zf t.zf ∧ i.descriptor.flags.n.allows s.nf t.nf ∧
    i.descriptor.flags.h.allows s.hf t.hf ∧ i.descriptor.flags.c.allows s.cf t.cf

/-- R158, R159: each instruction returns its row's cycles, or the taken count where it is a conditional transfer whose
condition holds, and one that is no transfer leaves PC at the next address. -/
def Obligations.CyclesAndPcFollowTheTable : Prop :=
  ∀ (i : Instr) (s t : State), exec i s = .next t →
    t.cycles = (match i.cond with
      | some cc => if s.met cc then i.descriptor.cyclesTaken.getD 0 else i.descriptor.cycles
      | none => i.descriptor.cycles) ∧
    (i.transfers = false → t.pc = s.pc + BitVec.ofNat 16 i.length)

/-- The memory frame of every instruction: a byte that no store of the instruction reaches reads as before; where it
stores nothing, every byte does. -/
def Obligations.OnlyStoredBytesChange : Prop :=
  ∀ (i : Instr) (s t : State), exec i s = .next t →
    ∀ b : Word, (∀ a ∈ i.stores s, s.reaches a b = false) → t.read b = s.read b

/-- The control frame of every instruction (R36, R38 to R42, R44, R45): only EI, DI and RETI write IME and `ei_delay`,
only HALT writes `halted`, only a store to 0xFF50 writes `overlay_enabled`, only the instructions of R36 write SP, and none
writes the scheduler, the launch inputs or, completing, `fault`. -/
def Obligations.ControlStateHasItsWriters : Prop :=
  ∀ (i : Instr) (s t : State), exec i s = .next t →
    t.gpu = s.gpu ∧ t.launch = s.launch ∧ t.fault = s.fault ∧
    (i ≠ .ei → i ≠ .di → i ≠ .reti → t.ime = s.ime ∧ t.eiDelay = s.eiDelay) ∧
    (i ≠ .halt → t.halted = s.halted) ∧
    (0xFF50 ∉ i.stores s → t.overlay = s.overlay) ∧
    (i.writesSp = false → t.sp = s.sp)
end

