-- ==== Sys2Proof/Laws/Memory.lean ====
section
/-! SUPPORT. Memory: reading after writing, and that every memory operation keeps the canonical form `Memory.wf`. -/

namespace Sys2Proof.Machine

theorem Memory.wfFrom_mono {lo hi : Nat} {m : Memory} (h : lo ≤ hi) (w : Memory.wfFrom hi m = true) :
    Memory.wfFrom lo m = true := by
  cases m with
  | nil => rfl
  | cons x m =>
    simp only [Memory.wfFrom, Bool.and_eq_true, decide_eq_true_eq] at w ⊢
    exact ⟨⟨by omega, w.1.2⟩, w.2⟩

/-- Below the least address, a canonical memory reads as the fill byte. -/
theorem Memory.read_below {lo k : Nat} {m : Memory} (w : Memory.wfFrom lo m = true) (h : k < lo) :
    Memory.read m k = Memory.fill := by
  induction m generalizing lo with
  | nil => rfl
  | cons x m ih =>
    simp only [Memory.wfFrom, Bool.and_eq_true, decide_eq_true_eq] at w
    simp only [Memory.read]
    rw [if_neg (by omega), ih w.2 (by omega)]

theorem Memory.cons_wf {lo k : Nat} {v : Byte} {m : Memory} (h : lo ≤ k) (w : Memory.wfFrom (k + 1) m = true) :
    Memory.wfFrom lo (Memory.cons k v m) = true := by
  unfold Memory.cons
  split
  · exact Memory.wfFrom_mono (by omega) w
  · simp_all [Memory.wfFrom]

theorem Memory.read_cons {k j : Nat} {v : Byte} {m : Memory} (w : Memory.wfFrom (k + 1) m = true) :
    Memory.read (Memory.cons k v m) j = if k = j then v else Memory.read m j := by
  unfold Memory.cons
  split
  · split
    · subst_vars; exact Memory.read_below w (by omega)
    · rfl
  · rfl

theorem Memory.write_wfFrom {lo k : Nat} {v : Byte} {m : Memory} (h : lo ≤ k) (w : Memory.wfFrom lo m = true) :
    Memory.wfFrom lo (Memory.write m k v) = true := by
  induction m generalizing lo with
  | nil => exact Memory.cons_wf h rfl
  | cons x m ih =>
    simp only [Memory.wfFrom, Bool.and_eq_true, decide_eq_true_eq] at w
    simp only [Memory.write]
    split
    · refine Memory.cons_wf h ?_
      simp only [Memory.wfFrom, Bool.and_eq_true, decide_eq_true_eq]
      exact ⟨⟨by omega, w.1.2⟩, w.2⟩
    · split
      · next e => exact Memory.cons_wf h (e ▸ w.2)
      · simp only [Memory.wfFrom, Bool.and_eq_true, decide_eq_true_eq]
        exact ⟨w.1, ih (by omega) w.2⟩

/-- A write keeps the canonical form. -/
theorem Memory.write_wf {k : Nat} {v : Byte} {m : Memory} (w : m.wf = true) : (m.write k v).wf = true :=
  Memory.write_wfFrom (Nat.zero_le k) w

theorem Memory.read_write_sameFrom {lo k : Nat} {v : Byte} {m : Memory} (w : Memory.wfFrom lo m = true) :
    Memory.read (Memory.write m k v) k = v := by
  induction m generalizing lo with
  | nil => simp [Memory.write, Memory.read_cons (m := []) (k := k) rfl]
  | cons x m ih =>
    have w0 := w
    simp only [Memory.wfFrom, Bool.and_eq_true, decide_eq_true_eq] at w
    simp only [Memory.write]
    split
    · rw [Memory.read_cons, if_pos rfl]
      simp only [Memory.wfFrom, Bool.and_eq_true, decide_eq_true_eq]
      exact ⟨⟨by omega, w.1.2⟩, w.2⟩
    · split
      · next e => rw [Memory.read_cons (e ▸ w.2), if_pos rfl]
      · simp only [Memory.read]
        rw [if_neg (by omega), ih w.2]

/-- A canonical memory reads what was last written there. -/
theorem Memory.read_write_same {k : Nat} {v : Byte} {m : Memory} (w : m.wf = true) : (m.write k v).read k = v :=
  Memory.read_write_sameFrom w

/-- A write leaves every other address alone, in any list. -/
theorem Memory.read_write_other {j k : Nat} {v : Byte} {m : Memory} (h : j ≠ k) :
    (m.write k v).read j = m.read j := by
  have cons (m : Memory) : Memory.read (Memory.cons k v m) j = Memory.read m j := by
    unfold Memory.cons
    split
    · rfl
    · simp only [Memory.read]; rw [if_neg (Ne.symm h)]
  induction m with
  | nil => exact cons []
  | cons x m ih =>
    simp only [Memory.write]
    split
    · exact cons _
    · split
      · next e => rw [cons]; simp only [Memory.read]; rw [if_neg (e ▸ Ne.symm h)]
      · simp only [Memory.read]; rw [ih]

/-- Reading after writing, in a canonical memory. -/
theorem Memory.read_write {j k : Nat} {v : Byte} {m : Memory} (w : m.wf = true) :
    (m.write k v).read j = if j = k then v else m.read j := by
  split
  · subst_vars; exact Memory.read_write_same w
  · next h => exact Memory.read_write_other h

/-- A write lists no address but its own that was not listed. -/
theorem Memory.write_all {p : Nat → Bool} {k : Nat} {v : Byte} {m : Memory} (hk : p k = true)
    (h : m.all (fun c => p c.1) = true) : (m.write k v).all (fun c => p c.1) = true := by
  have cons (m : Memory) (h : m.all (fun c => p c.1) = true) :
      (Memory.cons k v m).all (fun c => p c.1) = true := by
    unfold Memory.cons
    split
    · exact h
    · simp only [List.all_cons, hk, h, Bool.and_self]
  induction m with
  | nil => exact cons [] rfl
  | cons x m ih =>
    have h0 := h
    simp only [List.all_cons, Bool.and_eq_true] at h
    simp only [Memory.write]
    split
    · exact cons _ h0
    · split
      · exact cons _ h.2
      · simp only [List.all_cons, h.1, ih h.2, Bool.and_self]

theorem Memory.ofBytes_wf (k : Nat) (bs : List Byte) : Memory.wfFrom k (Memory.ofBytes k bs) = true := by
  induction bs generalizing k with
  | nil => rfl
  | cons v bs ih => exact Memory.cons_wf (Nat.le_refl k) (ih (k + 1))

/-- The memory that holds consecutive bytes reads them at their addresses, and the fill byte elsewhere. -/
theorem Memory.read_ofBytes (k j : Nat) (bs : List Byte) :
    Memory.read (Memory.ofBytes k bs) j = if k ≤ j then bs.getD (j - k) Memory.fill else Memory.fill := by
  induction bs generalizing k with
  | nil => simp [Memory.ofBytes, Memory.read]
  | cons v bs ih =>
    rw [Memory.ofBytes, Memory.read_cons (Memory.ofBytes_wf (k + 1) bs), ih]
    by_cases e : k = j
    · subst e; simp
    · by_cases l : k + 1 ≤ j
      · have : j - k = (j - (k + 1)) + 1 := by omega
        rw [if_neg e, if_pos l, if_pos (by omega), this, List.getD_cons_succ]
      · rw [if_neg e, if_neg l, if_neg (by omega)]

theorem Memory.ofCells_wf (cells : List Host.Cell) : (Memory.ofCells cells).wf = true := by
  induction cells with
  | nil => rfl
  | cons x cells ih =>
    unfold Memory.ofCells
    split
    · exact Memory.write_wf ih
    · exact ih

theorem Memory.ofCells_storage (cells : List Host.Cell) :
    (Memory.ofCells cells).all (fun c => isStorage c.1) = true := by
  induction cells with
  | nil => rfl
  | cons x cells ih =>
    unfold Memory.ofCells
    split
    · next h => exact Memory.write_all h ih
    · exact ih

/-- The memory of the reset state is canonical. -/
theorem State.reset_mem_wf : State.reset.mem.wf = true := rfl

end Sys2Proof.Machine
end

