-- ==== Sys2Proof/Laws/State.lean ====
section
/-! SUPPORT. One lemma per field of State per named update: what the field is after it. -/

namespace Sys2Proof.Machine

/-! `setByte` -/

@[simp] theorem State.setByte_regs (s : State) (a : Word) (v : Byte) : (s.setByte a v).regs = s.regs := rfl
@[simp] theorem State.setByte_sp (s : State) (a : Word) (v : Byte) : (s.setByte a v).sp = s.sp := rfl
@[simp] theorem State.setByte_pc (s : State) (a : Word) (v : Byte) : (s.setByte a v).pc = s.pc := rfl
@[simp] theorem State.setByte_ime (s : State) (a : Word) (v : Byte) : (s.setByte a v).ime = s.ime := rfl
@[simp] theorem State.setByte_eiDelay (s : State) (a : Word) (v : Byte) : (s.setByte a v).eiDelay = s.eiDelay := rfl
@[simp] theorem State.setByte_halted (s : State) (a : Word) (v : Byte) : (s.setByte a v).halted = s.halted := rfl
@[simp] theorem State.setByte_fault (s : State) (a : Word) (v : Byte) : (s.setByte a v).fault = s.fault := rfl
@[simp] theorem State.setByte_overlay (s : State) (a : Word) (v : Byte) : (s.setByte a v).overlay = s.overlay := rfl
@[simp] theorem State.setByte_mem (s : State) (a : Word) (v : Byte) : (s.setByte a v).mem = s.mem.write (home a) v := rfl
@[simp] theorem State.setByte_gpu (s : State) (a : Word) (v : Byte) : (s.setByte a v).gpu = s.gpu := rfl
@[simp] theorem State.setByte_launch (s : State) (a : Word) (v : Byte) : (s.setByte a v).launch = s.launch := rfl
@[simp] theorem State.setByte_cycles (s : State) (a : Word) (v : Byte) : (s.setByte a v).cycles = s.cycles := rfl

/-! `setA` -/

@[simp] theorem State.setA_regs (s : State) (v : Byte) : (s.setA v).regs = { s.regs with a := v } := rfl
@[simp] theorem State.setA_sp (s : State) (v : Byte) : (s.setA v).sp = s.sp := rfl
@[simp] theorem State.setA_pc (s : State) (v : Byte) : (s.setA v).pc = s.pc := rfl
@[simp] theorem State.setA_ime (s : State) (v : Byte) : (s.setA v).ime = s.ime := rfl
@[simp] theorem State.setA_eiDelay (s : State) (v : Byte) : (s.setA v).eiDelay = s.eiDelay := rfl
@[simp] theorem State.setA_halted (s : State) (v : Byte) : (s.setA v).halted = s.halted := rfl
@[simp] theorem State.setA_fault (s : State) (v : Byte) : (s.setA v).fault = s.fault := rfl
@[simp] theorem State.setA_overlay (s : State) (v : Byte) : (s.setA v).overlay = s.overlay := rfl
@[simp] theorem State.setA_mem (s : State) (v : Byte) : (s.setA v).mem = s.mem := rfl
@[simp] theorem State.setA_gpu (s : State) (v : Byte) : (s.setA v).gpu = s.gpu := rfl
@[simp] theorem State.setA_launch (s : State) (v : Byte) : (s.setA v).launch = s.launch := rfl
@[simp] theorem State.setA_cycles (s : State) (v : Byte) : (s.setA v).cycles = s.cycles := rfl

/-! `setHl` -/

@[simp] theorem State.setHl_regs (s : State) (v : Word) : (s.setHl v).regs = s.regs.setHl v := rfl
@[simp] theorem State.setHl_sp (s : State) (v : Word) : (s.setHl v).sp = s.sp := rfl
@[simp] theorem State.setHl_pc (s : State) (v : Word) : (s.setHl v).pc = s.pc := rfl
@[simp] theorem State.setHl_ime (s : State) (v : Word) : (s.setHl v).ime = s.ime := rfl
@[simp] theorem State.setHl_eiDelay (s : State) (v : Word) : (s.setHl v).eiDelay = s.eiDelay := rfl
@[simp] theorem State.setHl_halted (s : State) (v : Word) : (s.setHl v).halted = s.halted := rfl
@[simp] theorem State.setHl_fault (s : State) (v : Word) : (s.setHl v).fault = s.fault := rfl
@[simp] theorem State.setHl_overlay (s : State) (v : Word) : (s.setHl v).overlay = s.overlay := rfl
@[simp] theorem State.setHl_mem (s : State) (v : Word) : (s.setHl v).mem = s.mem := rfl
@[simp] theorem State.setHl_gpu (s : State) (v : Word) : (s.setHl v).gpu = s.gpu := rfl
@[simp] theorem State.setHl_launch (s : State) (v : Word) : (s.setHl v).launch = s.launch := rfl
@[simp] theorem State.setHl_cycles (s : State) (v : Word) : (s.setHl v).cycles = s.cycles := rfl

/-! `setFlags` -/

@[simp] theorem State.setFlags_regs (s : State) (f : Flags) : (s.setFlags f).regs = { s.regs with f := f.pack } := rfl
@[simp] theorem State.setFlags_sp (s : State) (f : Flags) : (s.setFlags f).sp = s.sp := rfl
@[simp] theorem State.setFlags_pc (s : State) (f : Flags) : (s.setFlags f).pc = s.pc := rfl
@[simp] theorem State.setFlags_ime (s : State) (f : Flags) : (s.setFlags f).ime = s.ime := rfl
@[simp] theorem State.setFlags_eiDelay (s : State) (f : Flags) : (s.setFlags f).eiDelay = s.eiDelay := rfl
@[simp] theorem State.setFlags_halted (s : State) (f : Flags) : (s.setFlags f).halted = s.halted := rfl
@[simp] theorem State.setFlags_fault (s : State) (f : Flags) : (s.setFlags f).fault = s.fault := rfl
@[simp] theorem State.setFlags_overlay (s : State) (f : Flags) : (s.setFlags f).overlay = s.overlay := rfl
@[simp] theorem State.setFlags_mem (s : State) (f : Flags) : (s.setFlags f).mem = s.mem := rfl
@[simp] theorem State.setFlags_gpu (s : State) (f : Flags) : (s.setFlags f).gpu = s.gpu := rfl
@[simp] theorem State.setFlags_launch (s : State) (f : Flags) : (s.setFlags f).launch = s.launch := rfl
@[simp] theorem State.setFlags_cycles (s : State) (f : Flags) : (s.setFlags f).cycles = s.cycles := rfl

/-! `setMode` -/

@[simp] theorem State.setMode_regs (s : State) (m : Mode) : (s.setMode m).regs = s.regs := rfl
@[simp] theorem State.setMode_sp (s : State) (m : Mode) : (s.setMode m).sp = s.sp := rfl
@[simp] theorem State.setMode_pc (s : State) (m : Mode) : (s.setMode m).pc = s.pc := rfl
@[simp] theorem State.setMode_ime (s : State) (m : Mode) : (s.setMode m).ime = s.ime := rfl
@[simp] theorem State.setMode_eiDelay (s : State) (m : Mode) : (s.setMode m).eiDelay = s.eiDelay := rfl
@[simp] theorem State.setMode_halted (s : State) (m : Mode) : (s.setMode m).halted = s.halted := rfl
@[simp] theorem State.setMode_fault (s : State) (m : Mode) : (s.setMode m).fault = s.fault := rfl
@[simp] theorem State.setMode_overlay (s : State) (m : Mode) : (s.setMode m).overlay = s.overlay := rfl
@[simp] theorem State.setMode_mem (s : State) (m : Mode) : (s.setMode m).mem = s.mem := rfl
@[simp] theorem State.setMode_gpu (s : State) (m : Mode) : (s.setMode m).gpu = { s.gpu with mode := m } := rfl
@[simp] theorem State.setMode_launch (s : State) (m : Mode) : (s.setMode m).launch = s.launch := rfl
@[simp] theorem State.setMode_cycles (s : State) (m : Mode) : (s.setMode m).cycles = s.cycles := rfl

/-! `setAcc` -/

@[simp] theorem State.setAcc_regs (s : State) (n : Nat) : (s.setAcc n).regs = s.regs := rfl
@[simp] theorem State.setAcc_sp (s : State) (n : Nat) : (s.setAcc n).sp = s.sp := rfl
@[simp] theorem State.setAcc_pc (s : State) (n : Nat) : (s.setAcc n).pc = s.pc := rfl
@[simp] theorem State.setAcc_ime (s : State) (n : Nat) : (s.setAcc n).ime = s.ime := rfl
@[simp] theorem State.setAcc_eiDelay (s : State) (n : Nat) : (s.setAcc n).eiDelay = s.eiDelay := rfl
@[simp] theorem State.setAcc_halted (s : State) (n : Nat) : (s.setAcc n).halted = s.halted := rfl
@[simp] theorem State.setAcc_fault (s : State) (n : Nat) : (s.setAcc n).fault = s.fault := rfl
@[simp] theorem State.setAcc_overlay (s : State) (n : Nat) : (s.setAcc n).overlay = s.overlay := rfl
@[simp] theorem State.setAcc_mem (s : State) (n : Nat) : (s.setAcc n).mem = s.mem := rfl
@[simp] theorem State.setAcc_gpu (s : State) (n : Nat) : (s.setAcc n).gpu = { s.gpu with acc := n } := rfl
@[simp] theorem State.setAcc_launch (s : State) (n : Nat) : (s.setAcc n).launch = s.launch := rfl
@[simp] theorem State.setAcc_cycles (s : State) (n : Nat) : (s.setAcc n).cycles = s.cycles := rfl

/-! `nextLine` -/

@[simp] theorem State.nextLine_regs (s : State) : (s.nextLine).regs = s.regs := rfl
@[simp] theorem State.nextLine_sp (s : State) : (s.nextLine).sp = s.sp := rfl
@[simp] theorem State.nextLine_pc (s : State) : (s.nextLine).pc = s.pc := rfl
@[simp] theorem State.nextLine_ime (s : State) : (s.nextLine).ime = s.ime := rfl
@[simp] theorem State.nextLine_eiDelay (s : State) : (s.nextLine).eiDelay = s.eiDelay := rfl
@[simp] theorem State.nextLine_halted (s : State) : (s.nextLine).halted = s.halted := rfl
@[simp] theorem State.nextLine_fault (s : State) : (s.nextLine).fault = s.fault := rfl
@[simp] theorem State.nextLine_overlay (s : State) : (s.nextLine).overlay = s.overlay := rfl
@[simp] theorem State.nextLine_mem (s : State) : (s.nextLine).mem = s.mem := rfl
@[simp] theorem State.nextLine_gpu (s : State) : (s.nextLine).gpu = { s.gpu with scanline := s.gpu.scanline + 1 } := rfl
@[simp] theorem State.nextLine_launch (s : State) : (s.nextLine).launch = s.launch := rfl
@[simp] theorem State.nextLine_cycles (s : State) : (s.nextLine).cycles = s.cycles := rfl

/-! `enterVblank` -/

@[simp] theorem State.enterVblank_regs (s : State) : (s.enterVblank).regs = s.regs := rfl
@[simp] theorem State.enterVblank_sp (s : State) : (s.enterVblank).sp = s.sp := rfl
@[simp] theorem State.enterVblank_pc (s : State) : (s.enterVblank).pc = s.pc := rfl
@[simp] theorem State.enterVblank_ime (s : State) : (s.enterVblank).ime = s.ime := rfl
@[simp] theorem State.enterVblank_eiDelay (s : State) : (s.enterVblank).eiDelay = s.eiDelay := rfl
@[simp] theorem State.enterVblank_halted (s : State) : (s.enterVblank).halted = s.halted := rfl
@[simp] theorem State.enterVblank_fault (s : State) : (s.enterVblank).fault = s.fault := rfl
@[simp] theorem State.enterVblank_overlay (s : State) : (s.enterVblank).overlay = s.overlay := rfl
@[simp] theorem State.enterVblank_mem (s : State) : (s.enterVblank).mem = s.mem.write 0xFF0F (s.iflag ||| 0x01) := rfl
@[simp] theorem State.enterVblank_launch (s : State) : (s.enterVblank).launch = s.launch := rfl
@[simp] theorem State.enterVblank_cycles (s : State) : (s.enterVblank).cycles = s.cycles := rfl

/-! `wrapFrame` -/

@[simp] theorem State.wrapFrame_regs (s : State) : (s.wrapFrame).regs = s.regs := rfl
@[simp] theorem State.wrapFrame_sp (s : State) : (s.wrapFrame).sp = s.sp := rfl
@[simp] theorem State.wrapFrame_pc (s : State) : (s.wrapFrame).pc = s.pc := rfl
@[simp] theorem State.wrapFrame_ime (s : State) : (s.wrapFrame).ime = s.ime := rfl
@[simp] theorem State.wrapFrame_eiDelay (s : State) : (s.wrapFrame).eiDelay = s.eiDelay := rfl
@[simp] theorem State.wrapFrame_halted (s : State) : (s.wrapFrame).halted = s.halted := rfl
@[simp] theorem State.wrapFrame_fault (s : State) : (s.wrapFrame).fault = s.fault := rfl
@[simp] theorem State.wrapFrame_overlay (s : State) : (s.wrapFrame).overlay = s.overlay := rfl
@[simp] theorem State.wrapFrame_mem (s : State) : (s.wrapFrame).mem = s.mem := rfl
@[simp] theorem State.wrapFrame_launch (s : State) : (s.wrapFrame).launch = s.launch := rfl
@[simp] theorem State.wrapFrame_cycles (s : State) : (s.wrapFrame).cycles = s.cycles := rfl

@[simp] theorem State.enterVblank_gpu (s : State) : s.enterVblank.gpu =
    { s.gpu with
      mode := .vblank
      frames := if s.launch.params.frameCountPoint = .vblankEntry then s.gpu.frames + 1 else s.gpu.frames
      frameSignals := s.gpu.frameSignals + 1 } := rfl
@[simp] theorem State.wrapFrame_gpu (s : State) : s.wrapFrame.gpu =
    { s.gpu with
      mode := .oamRead
      scanline := 0
      frames := if s.launch.params.frameCountPoint = .frameWrap then s.gpu.frames + 1 else s.gpu.frames } := rfl

/-! `put16`, the fields it leaves -/

@[simp] theorem State.put16_pc (s : State) (p : R16) (v : Word) : (s.put16 p v).pc = s.pc := by
  cases p <;> rfl
@[simp] theorem State.put16_ime (s : State) (p : R16) (v : Word) : (s.put16 p v).ime = s.ime := by
  cases p <;> rfl
@[simp] theorem State.put16_eiDelay (s : State) (p : R16) (v : Word) : (s.put16 p v).eiDelay = s.eiDelay := by
  cases p <;> rfl
@[simp] theorem State.put16_halted (s : State) (p : R16) (v : Word) : (s.put16 p v).halted = s.halted := by
  cases p <;> rfl
@[simp] theorem State.put16_fault (s : State) (p : R16) (v : Word) : (s.put16 p v).fault = s.fault := by
  cases p <;> rfl
@[simp] theorem State.put16_overlay (s : State) (p : R16) (v : Word) : (s.put16 p v).overlay = s.overlay := by
  cases p <;> rfl
@[simp] theorem State.put16_mem (s : State) (p : R16) (v : Word) : (s.put16 p v).mem = s.mem := by
  cases p <;> rfl
@[simp] theorem State.put16_gpu (s : State) (p : R16) (v : Word) : (s.put16 p v).gpu = s.gpu := by
  cases p <;> rfl
@[simp] theorem State.put16_launch (s : State) (p : R16) (v : Word) : (s.put16 p v).launch = s.launch := by
  cases p <;> rfl
@[simp] theorem State.put16_cycles (s : State) (p : R16) (v : Word) : (s.put16 p v).cycles = s.cycles := by
  cases p <;> rfl

/-! `writeBoot`, the fields it leaves -/

@[simp] theorem State.writeBoot_regs (s : State) (v : Byte) : (s.writeBoot v).regs = s.regs := by
  unfold State.writeBoot; dsimp only; split <;> rfl
@[simp] theorem State.writeBoot_sp (s : State) (v : Byte) : (s.writeBoot v).sp = s.sp := by
  unfold State.writeBoot; dsimp only; split <;> rfl
@[simp] theorem State.writeBoot_pc (s : State) (v : Byte) : (s.writeBoot v).pc = s.pc := by
  unfold State.writeBoot; dsimp only; split <;> rfl
@[simp] theorem State.writeBoot_ime (s : State) (v : Byte) : (s.writeBoot v).ime = s.ime := by
  unfold State.writeBoot; dsimp only; split <;> rfl
@[simp] theorem State.writeBoot_eiDelay (s : State) (v : Byte) : (s.writeBoot v).eiDelay = s.eiDelay := by
  unfold State.writeBoot; dsimp only; split <;> rfl
@[simp] theorem State.writeBoot_halted (s : State) (v : Byte) : (s.writeBoot v).halted = s.halted := by
  unfold State.writeBoot; dsimp only; split <;> rfl
@[simp] theorem State.writeBoot_fault (s : State) (v : Byte) : (s.writeBoot v).fault = s.fault := by
  unfold State.writeBoot; dsimp only; split <;> rfl
@[simp] theorem State.writeBoot_gpu (s : State) (v : Byte) : (s.writeBoot v).gpu = s.gpu := by
  unfold State.writeBoot; dsimp only; split <;> rfl
@[simp] theorem State.writeBoot_launch (s : State) (v : Byte) : (s.writeBoot v).launch = s.launch := by
  unfold State.writeBoot; dsimp only; split <;> rfl
@[simp] theorem State.writeBoot_cycles (s : State) (v : Byte) : (s.writeBoot v).cycles = s.cycles := by
  unfold State.writeBoot; dsimp only; split <;> rfl

@[simp] theorem State.writeBoot_mem (s : State) (v : Byte) : (s.writeBoot v).mem = s.mem.write 0xFF50 v := by
  unfold State.writeBoot; dsimp only; split <;> rfl
@[simp] theorem State.writeBoot_overlay (s : State) (v : Byte) :
    (s.writeBoot v).overlay = if v = 0x01 then false else s.overlay := by
  unfold State.writeBoot; dsimp only; split <;> rfl

/-! `countdown`, the fields it leaves -/

@[simp] theorem State.countdown_regs (s : State) : (s.countdown).regs = s.regs := by
  unfold State.countdown; split <;> rfl
@[simp] theorem State.countdown_sp (s : State) : (s.countdown).sp = s.sp := by
  unfold State.countdown; split <;> rfl
@[simp] theorem State.countdown_pc (s : State) : (s.countdown).pc = s.pc := by
  unfold State.countdown; split <;> rfl
@[simp] theorem State.countdown_halted (s : State) : (s.countdown).halted = s.halted := by
  unfold State.countdown; split <;> rfl
@[simp] theorem State.countdown_fault (s : State) : (s.countdown).fault = s.fault := by
  unfold State.countdown; split <;> rfl
@[simp] theorem State.countdown_overlay (s : State) : (s.countdown).overlay = s.overlay := by
  unfold State.countdown; split <;> rfl
@[simp] theorem State.countdown_mem (s : State) : (s.countdown).mem = s.mem := by
  unfold State.countdown; split <;> rfl
@[simp] theorem State.countdown_gpu (s : State) : (s.countdown).gpu = s.gpu := by
  unfold State.countdown; split <;> rfl
@[simp] theorem State.countdown_launch (s : State) : (s.countdown).launch = s.launch := by
  unfold State.countdown; split <;> rfl
@[simp] theorem State.countdown_cycles (s : State) : (s.countdown).cycles = s.cycles := by
  unfold State.countdown; split <;> rfl

/-! `transition`, the fields it leaves -/

@[simp] theorem State.transition_regs (s : State) : (s.transition).regs = s.regs := by
  unfold State.transition; dsimp only; split <;> first | rfl | (split <;> rfl)
@[simp] theorem State.transition_sp (s : State) : (s.transition).sp = s.sp := by
  unfold State.transition; dsimp only; split <;> first | rfl | (split <;> rfl)
@[simp] theorem State.transition_pc (s : State) : (s.transition).pc = s.pc := by
  unfold State.transition; dsimp only; split <;> first | rfl | (split <;> rfl)
@[simp] theorem State.transition_ime (s : State) : (s.transition).ime = s.ime := by
  unfold State.transition; dsimp only; split <;> first | rfl | (split <;> rfl)
@[simp] theorem State.transition_eiDelay (s : State) : (s.transition).eiDelay = s.eiDelay := by
  unfold State.transition; dsimp only; split <;> first | rfl | (split <;> rfl)
@[simp] theorem State.transition_halted (s : State) : (s.transition).halted = s.halted := by
  unfold State.transition; dsimp only; split <;> first | rfl | (split <;> rfl)
@[simp] theorem State.transition_fault (s : State) : (s.transition).fault = s.fault := by
  unfold State.transition; dsimp only; split <;> first | rfl | (split <;> rfl)
@[simp] theorem State.transition_overlay (s : State) : (s.transition).overlay = s.overlay := by
  unfold State.transition; dsimp only; split <;> first | rfl | (split <;> rfl)
@[simp] theorem State.transition_launch (s : State) : (s.transition).launch = s.launch := by
  unfold State.transition; dsimp only; split <;> first | rfl | (split <;> rfl)
@[simp] theorem State.transition_cycles (s : State) : (s.transition).cycles = s.cycles := by
  unfold State.transition; dsimp only; split <;> first | rfl | (split <;> rfl)

/-! Pairs -/

@[simp] theorem Regs.setAf_bc (r : Regs) (v : Word) : (r.setAf v).bc = r.bc := rfl
@[simp] theorem Regs.setAf_de (r : Regs) (v : Word) : (r.setAf v).de = r.de := rfl
@[simp] theorem Regs.setAf_hl (r : Regs) (v : Word) : (r.setAf v).hl = r.hl := rfl
@[simp] theorem Regs.setBc_af (r : Regs) (v : Word) : (r.setBc v).af = r.af := rfl
@[simp] theorem Regs.setBc_de (r : Regs) (v : Word) : (r.setBc v).de = r.de := rfl
@[simp] theorem Regs.setBc_hl (r : Regs) (v : Word) : (r.setBc v).hl = r.hl := rfl
@[simp] theorem Regs.setDe_af (r : Regs) (v : Word) : (r.setDe v).af = r.af := rfl
@[simp] theorem Regs.setDe_bc (r : Regs) (v : Word) : (r.setDe v).bc = r.bc := rfl
@[simp] theorem Regs.setDe_hl (r : Regs) (v : Word) : (r.setDe v).hl = r.hl := rfl
@[simp] theorem Regs.setHl_af (r : Regs) (v : Word) : (r.setHl v).af = r.af := rfl
@[simp] theorem Regs.setHl_bc (r : Regs) (v : Word) : (r.setHl v).bc = r.bc := rfl
@[simp] theorem Regs.setHl_de (r : Regs) (v : Word) : (r.setHl v).de = r.de := rfl
@[simp] theorem cat_hiByte_loByte (v : Word) : cat (hiByte v) (loByte v) = v := by
  apply BitVec.eq_of_getLsbD_eq
  intro i hi
  simp only [cat, hiByte, loByte, BitVec.getLsbD_append, BitVec.getLsbD_extractLsb']
  split
  · next h => simp [h]
  · next h => rw [Nat.add_sub_cancel' (by omega)]; simp; omega
@[simp] theorem hiByte_cat (x y : Byte) : hiByte (cat x y) = x := by
  apply BitVec.eq_of_getLsbD_eq
  intro i hi
  simp only [cat, hiByte, BitVec.getLsbD_append, BitVec.getLsbD_extractLsb', hi]
  simp [hi]
@[simp] theorem loByte_cat (x y : Byte) : loByte (cat x y) = y := by
  apply BitVec.eq_of_getLsbD_eq
  intro i hi
  simp only [cat, loByte, BitVec.getLsbD_append, BitVec.getLsbD_extractLsb', hi]
  simp [hi]

end Sys2Proof.Machine
end

