-- ==== Sys2Proof/Laws/Bus.lean ====
section
/-! SUPPORT. The bus: what a read depends on, and once for all what a write can do. -/

namespace Sys2Proof.Machine

/-! ## Storage -/

theorem home_lt (a : Word) : home a < 0x10000 := by
  unfold home; split <;> omega

/-- Every address that has storage in `mem` names a key that `mem` may list. -/
theorem isStorage_home {a : Word} (h : 0x8000 ≤ a.toNat) (h2 : ¬(0xFEA0 ≤ a.toNat ∧ a.toNat < 0xFF00)) :
    isStorage (home a) = true := by
  have := a.isLt
  unfold home isStorage
  simp only [Bool.or_eq_true, Bool.and_eq_true, decide_eq_true_eq]
  split <;> omega

/-- `memoryOk` in parts. -/
theorem State.memoryOk_iff (s : State) : s.memoryOk = true ↔
    s.mem.wf = true ∧ s.mem.all (fun c => isStorage c.1) = true ∧ s.launch.cart.wf = true ∧ s.launch.boot.wf = true := by
  simp only [State.memoryOk, Bool.and_eq_true, and_assoc]

/-- A write of a storage key keeps `memoryOk`. -/
theorem State.memoryOk_write {s : State} {k : Nat} {v : Byte} (h : s.memoryOk = true) (hk : isStorage k = true) :
    { s with mem := s.mem.write k v }.memoryOk = true := by
  rw [State.memoryOk_iff] at h ⊢
  exact ⟨Memory.write_wf h.1, Memory.write_all hk h.2.1, h.2.2⟩

theorem State.memoryOk_congr {s t : State} (hm : t.mem = s.mem) (hl : t.launch = s.launch) :
    t.memoryOk = s.memoryOk := by
  simp only [State.memoryOk, hm, hl]

/-! ## Reads -/

/-- The addresses of each region (20_memory.md R101, R105). -/
def Region.covers (o : Bool) (n : Nat) : Region → Prop
  | .boot => n < 0x100 ∧ o = true
  | .rom => n < 0x8000
  | .vram | .eram | .wram | .echo | .oam => 0x8000 ≤ n ∧ n < 0xFEA0
  | .unusable => 0xFEA0 ≤ n ∧ n < 0xFF00
  | .io => 0xFF00 ≤ n ∧ n < 0xFF80
  | .hram | .ie => 0xFF80 ≤ n

/-- What the region of an address says of the address. -/
theorem region_covers (o : Bool) (a : Word) : (region o a).covers o a.toNat := by
  unfold region
  generalize a.toNat = n
  dsimp only
  repeat' split
  all_goals (simp only [Region.covers]; first | omega | exact ⟨by assumption, by assumption⟩)

/-- A read depends on the overlay, `mem`, the launch images and the scheduler only. -/
theorem State.read_congr {s t : State} (ho : t.overlay = s.overlay) (hm : t.mem = s.mem) (hl : t.launch = s.launch)
    (hg : t.gpu = s.gpu) (a : Word) : t.read a = s.read a := by
  cases s; cases t; simp only at ho hm hl hg; subst ho hm hl hg; rfl

/-- Where a byte has storage of its own, a read returns it; LY and STAT are computed. -/
theorem State.read_storage {s : State} {a : Word} (h : 0x8000 ≤ a.toNat) (h2 : ¬(0xFEA0 ≤ a.toNat ∧ a.toNat < 0xFF00))
    (h3 : a ≠ 0xFF41) (h4 : a ≠ 0xFF44) : s.read a = s.byte a := by
  have r := region_covers s.overlay a
  cases hr : region s.overlay a <;> rw [hr] at r <;> simp only [Region.covers] at r <;> (try omega) <;>
    simp only [State.read, State.ioRead, hr, if_neg h3, if_neg h4]

/-! ## Writes, region by region (20_memory.md R103) -/

theorem State.write_rom {s : State} {a : Word} {v : Byte} (h : a.toNat < 0x8000) :
    s.write a v = .raise (.bankSwitch a v) s := by
  unfold State.write region
  by_cases h1 : a.toNat < 0x100
  · cases s.overlay <;> simp [h1]
  · simp [h1, h]

theorem State.write_ram {s : State} {a : Word} {v : Byte} (h : 0x8000 ≤ a.toNat)
    (h2 : a.toNat < 0xFEA0 ∨ 0xFF80 ≤ a.toNat) : s.write a v = .done (s.setByte a v) := by
  have r := region_covers s.overlay a
  cases hr : region s.overlay a <;> rw [hr] at r <;> simp only [Region.covers] at r <;> (try omega) <;>
    simp only [State.write, hr]

theorem State.write_unusable {s : State} {a : Word} {v : Byte} (h : 0xFEA0 ≤ a.toNat) (h2 : a.toNat < 0xFF00) :
    s.write a v = match s.launch.params.unusableWrite with
      | .fault => .raise (.unusableWrite a v) s
      | .ignore => .done s := by
  have r := region_covers s.overlay a
  cases hr : region s.overlay a <;> rw [hr] at r <;> simp only [Region.covers] at r <;> try omega
  cases hu : s.launch.params.unusableWrite <;> simp only [State.write, hr, hu]

theorem State.write_io {s : State} {a : Word} {v : Byte} (h : 0xFF00 ≤ a.toNat) (h2 : a.toNat < 0xFF80) :
    s.write a v = s.ioWrite a v := by
  have r := region_covers s.overlay a
  cases hr : region s.overlay a <;> rw [hr] at r <;> simp only [Region.covers] at r <;> try omega
  simp only [State.write, hr]

/-- The regions of the address map as ranges. -/
theorem region_ranges (a : Word) : a.toNat < 0x8000 ∨ (0x8000 ≤ a.toNat ∧ (a.toNat < 0xFEA0 ∨ 0xFF80 ≤ a.toNat)) ∨
    (0xFEA0 ≤ a.toNat ∧ a.toNat < 0xFF00) ∨ (0xFF00 ≤ a.toNat ∧ a.toNat < 0xFF80) := by
  omega

/-! ## What a write can do -/

/-- The byte a write of `v` stores at an address with storage of its own: DIV stores 0 (20_memory.md R112). -/
def stored (a : Word) (v : Byte) : Byte := if a = 0xFF04 then 0x00 else v

/-- Where a bus write faults, it leaves the state as it was; its fault has the cause its rule gives. -/
theorem State.write_raise {s t : State} {a : Word} {v : Byte} {k : FaultKind} (h : s.write a v = .raise k t) :
    t = s ∧
      ((k = .bankSwitch a v ∧ a.toNat < 0x8000) ∨
        (k = .unusableWrite a v ∧ 0xFEA0 ≤ a.toNat ∧ a.toNat < 0xFF00 ∧ s.launch.params.unusableWrite = .fault) ∨
        (k = .oamDma v ∧ a = 0xFF46 ∧ s.launch.params.dmaMode = .fault)) := by
  rcases region_ranges a with r | r | r | r
  · rw [State.write_rom r] at h
    cases h
    exact ⟨rfl, .inl ⟨rfl, r⟩⟩
  · rw [State.write_ram r.1 r.2] at h
    cases h
  · rw [State.write_unusable r.1 r.2] at h
    split at h
    · next e => cases h; exact ⟨rfl, .inr (.inl ⟨rfl, r.1, r.2, e⟩)⟩
    · cases h
  · rw [State.write_io r.1 r.2] at h
    unfold State.ioWrite State.writeDma at h
    repeat' split at h
    all_goals first | (cases h; done) | skip
    next e _ e2 => cases h; exact ⟨rfl, .inr (.inr ⟨rfl, e, e2⟩)⟩

/-- Every write that does not fault ignores its byte, stores it at its address, disables the overlay besides, or copies a
page to OAM besides. -/
theorem State.write_done {s t : State} {a : Word} {v : Byte} (h : s.write a v = .done t) :
    (t = s ∧ (a = 0xFF44 ∨ (0xFEA0 ≤ a.toNat ∧ a.toNat < 0xFF00 ∧ s.launch.params.unusableWrite = .ignore))) ∨
    (t = s.setByte a (stored a v) ∧ 0x8000 ≤ a.toNat ∧ ¬(0xFEA0 ≤ a.toNat ∧ a.toNat < 0xFF00) ∧ a ≠ 0xFF50 ∧
      a ≠ 0xFF44 ∧ (a = 0xFF46 → s.launch.params.dmaMode = .storage)) ∨
    (t = s.writeBoot v ∧ a = 0xFF50) ∨
    (t = (s.setByte 0xFF46 v).copyOam v 160 ∧ a = 0xFF46 ∧ s.launch.params.dmaMode = .copy) := by
  have ne {b : Word} {r : Prop} (hr : a = b → r) : ¬r → a ≠ b := fun n e => n (hr e)
  rcases region_ranges a with r | r | r | r
  · rw [State.write_rom r] at h
    cases h
  · rw [State.write_ram r.1 r.2] at h
    cases h
    have n (b : Word) (hb : 0xFF00 ≤ b.toNat) (hb2 : b.toNat < 0xFF80) : a ≠ b := by
      rintro rfl; omega
    refine .inr (.inl ⟨?_, r.1, by omega, n _ (by decide) (by decide), n _ (by decide) (by decide),
      fun e => absurd e (n _ (by decide) (by decide))⟩)
    simp only [stored, if_neg (n 0xFF04 (by decide) (by decide))]
  · rw [State.write_unusable r.1 r.2] at h
    split at h
    · cases h
    · next e => cases h; exact .inl ⟨rfl, .inr ⟨r.1, r.2, e⟩⟩
  · rw [State.write_io r.1 r.2] at h
    unfold State.ioWrite State.writeDma at h
    repeat' split at h
    all_goals first | (cases h; done) | (injection h with h; subst h)
    · next e => subst e; exact .inr (.inl ⟨rfl, by decide, by decide, by decide, by decide,
        fun e => absurd e (by decide)⟩)
    · next e => exact .inl ⟨rfl, .inl e⟩
    · next e _ e2 => subst e; exact .inr (.inl ⟨rfl, by decide, by decide, by decide, by decide, fun _ => e2⟩)
    · next e _ e2 => exact .inr (.inr (.inr ⟨rfl, e, e2⟩))
    · next e => exact .inr (.inr (.inl ⟨rfl, e⟩))
    · next e1 e2 e3 e4 =>
      refine .inr (.inl ⟨?_, by omega, by omega, e4, e2, fun e => absurd e e3⟩)
      simp only [stored, if_neg e1]

/-- A write faults exactly where `storable` says. -/
theorem State.write_done_iff (s : State) (a : Word) (v : Byte) :
    (∃ t, s.write a v = .done t) ↔ s.storable a = true := by
  constructor
  · rintro ⟨t, h⟩
    have hs : s.storable a = true ↔ ¬a.toNat < 0x8000 ∧
        ¬(0xFEA0 ≤ a.toNat ∧ a.toNat < 0xFF00 ∧ s.launch.params.unusableWrite = .fault) ∧
        ¬(a = 0xFF46 ∧ s.launch.params.dmaMode = .fault) := by
      unfold State.storable
      cases s.launch.params.unusableWrite <;> cases s.launch.params.dmaMode <;> by_cases e : a = 65350#16 <;>
        simp [e] <;> omega
    rw [hs]
    rcases State.write_done h with ⟨_, rfl | ⟨h1, h2, h3⟩⟩ | ⟨_, h1, h2, _, _, h3⟩ | ⟨_, rfl⟩ | ⟨_, rfl, h3⟩
    · exact ⟨by decide, by rw [show (0xFF44 : Word).toNat = 0xFF44 from rfl]; omega, fun e => absurd e.1 (by decide)⟩
    · exact ⟨by omega, fun e => by simp [h3] at e, fun e => by rw [e.1] at h2; revert h2; decide⟩
    · exact ⟨by omega, fun e => h2 ⟨e.1, e.2.1⟩, fun e => by simp [h3 e.1] at e⟩
    · exact ⟨by decide, by rw [show (0xFF50 : Word).toNat = 0xFF50 from rfl]; omega, fun e => absurd e.1 (by decide)⟩
    · exact ⟨by decide, by rw [show (0xFF46 : Word).toNat = 0xFF46 from rfl]; omega, fun e => by simp [h3] at e⟩
  · intro h
    match e : s.write a v with
    | .done t => exact ⟨t, rfl⟩
    | .raise k t =>
      exfalso
      rcases State.write_raise e with ⟨_, ⟨_, r⟩ | ⟨_, r, r2, r3⟩ | ⟨_, rfl, r⟩⟩
      · simp [State.storable, r] at h
      · simp [State.storable, r, r2, r3] at h
      · simp [State.storable, r] at h

/-! ## What a write leaves alone -/

/-- `copyOam` writes `mem` only. -/
theorem State.copyOam_eq (s : State) (p : Byte) (n : Nat) : ∃ m, s.copyOam p n = { s with mem := m } := by
  induction n with
  | zero => exact ⟨s.mem, rfl⟩
  | succ n ih =>
    obtain ⟨m, h⟩ := ih
    exact ⟨_, by rw [State.copyOam, h]; rfl⟩

/-- A write changes `mem` and, for BOOT, the overlay, and nothing else. -/
theorem State.write_eq {s t : State} {a : Word} {v : Byte} (h : s.write a v = .done t) :
    ∃ m o, t = { s with mem := m, overlay := o } ∧ (a ≠ 0xFF50 → o = s.overlay) ∧ (s.overlay = false → o = false) := by
  rcases State.write_done h with ⟨rfl, _⟩ | ⟨rfl, _⟩ | ⟨rfl, e⟩ | ⟨rfl, _⟩
  · exact ⟨t.mem, t.overlay, rfl, fun _ => rfl, id⟩
  · exact ⟨_, s.overlay, rfl, fun _ => rfl, id⟩
  · refine ⟨s.mem.write 0xFF50 v, (s.writeBoot v).overlay, ?_, fun n => absurd e n, fun e => by simp [e]⟩
    · unfold State.writeBoot; dsimp only; split <;> rfl
  · obtain ⟨m, e⟩ := State.copyOam_eq (s.setByte 0xFF46 v) v 160
    exact ⟨m, s.overlay, by rw [e]; rfl, fun _ => rfl, id⟩

theorem State.write_keeps {s t : State} {a : Word} {v : Byte} (h : s.write a v = .done t) :
    t.regs = s.regs ∧ t.sp = s.sp ∧ t.pc = s.pc ∧ t.ime = s.ime ∧ t.eiDelay = s.eiDelay ∧ t.halted = s.halted ∧
      t.fault = s.fault ∧ t.gpu = s.gpu ∧ t.launch = s.launch ∧ t.cycles = s.cycles := by
  obtain ⟨m, o, rfl, -⟩ := State.write_eq h
  simp

/-- The bus reads of the page a copy takes are unaffected by the part already copied, so the loop keeps `memoryOk`. -/
theorem State.copyOam_memoryOk {s : State} {p : Byte} (h : s.memoryOk = true) {n : Nat} (hn : n ≤ 160) :
    (s.copyOam p n).memoryOk = true := by
  induction n with
  | zero => exact h
  | succ n ih =>
    refine State.memoryOk_write (ih (by omega)) (isStorage_home ?_ ?_)
    all_goals simp only [BitVec.toNat_add, BitVec.toNat_ofNat, BitVec.ofNat_eq_ofNat]; omega

/-- Every memory operation of the bus keeps `memoryOk`. -/
theorem State.write_memoryOk {s t : State} {a : Word} {v : Byte} (h : s.write a v = .done t) (ok : s.memoryOk = true) :
    t.memoryOk = true := by
  rcases State.write_done h with ⟨rfl, _⟩ | ⟨rfl, h1, h2, _⟩ | ⟨rfl, _⟩ | ⟨rfl, _⟩
  · exact ok
  · exact State.memoryOk_write ok (isStorage_home h1 h2)
  · rw [State.memoryOk_congr (s := s.setByte 0xFF50 v) (State.writeBoot_mem s v) (State.writeBoot_launch s v)]
    exact State.memoryOk_write ok rfl
  · exact State.copyOam_memoryOk (State.memoryOk_write ok rfl) (Nat.le_refl _)

/-! ## Storing a byte -/

theorem State.setByte_byte {s : State} (ok : s.memoryOk = true) (a b : Word) (v : Byte) :
    (s.setByte a v).byte b = if home b = home a then v else s.byte b :=
  Memory.read_write ((State.memoryOk_iff s).1 ok).1

theorem State.setByte_byte_other {s : State} {a b : Word} {v : Byte} (h : home b ≠ home a) :
    (s.setByte a v).byte b = s.byte b :=
  Memory.read_write_other h

/-- An address from 0xFE00 up shares its storage with no other. -/
theorem eq_of_home {a b : Word} (h : home b = home a) (ha : 0xFE00 ≤ a.toNat) : b = a := by
  have := a.isLt
  have := b.isLt
  unfold home at h
  apply BitVec.eq_of_toNat_eq
  split at h <;> split at h <;> omega

/-- Storing a byte changes no read of another storage, but for STAT's coincidence bit where LYC is stored. -/
theorem State.setByte_read_other {s : State} {a b : Word} {v : Byte} (h : home b ≠ home a)
    (h2 : ¬(a = 0xFF45 ∧ b = 0xFF41)) : (s.setByte a v).read b = s.read b := by
  have e : (s.setByte a v).byte b = s.byte b := State.setByte_byte_other h
  unfold State.read State.ioRead
  simp only [State.setByte_overlay, State.setByte_launch, State.setByte_gpu, e]
  have io (hb : b = 0xFF41) : (s.setByte a v).stat = s.stat := by
    subst hb
    have h3 : home 0xFF45 ≠ home a := by
      intro e
      apply h2
      refine ⟨?_, rfl⟩
      unfold home at e
      apply BitVec.eq_of_toNat_eq
      simp only [show (0xFF45 : Word).toNat = 0xFF45 from rfl] at e ⊢
      split at e <;> split at e <;> omega
    simp only [State.stat, State.setByte_gpu, State.setByte_byte_other h, State.setByte_byte_other h3]
  by_cases hb : b = 0xFF41
  · rw [io hb]
  · simp only [if_neg hb]

end Sys2Proof.Machine
end

