-- ==== Sys2Proof/Laws/Exec.lean ====
section
/-! SUPPORT. Running an instruction's semantics: what `instr`, `instrIf`, `conclude`, the sequencing of effects and the
stack can do. -/

namespace Sys2Proof.Machine

/-! ## Sequencing -/

@[simp] theorem Effect.done_andThen (s : State) (k : State → Effect) : (Effect.done s).andThen k = k s := rfl
@[simp] theorem Effect.raise_andThen (x : FaultKind) (s : State) (k : State → Effect) :
    (Effect.raise x s).andThen k = .raise x s := rfl

theorem Effect.andThen_eq_done {e : Effect} {k : State → Effect} {t : State} :
    e.andThen k = .done t ↔ ∃ u, e = .done u ∧ k u = .done t := by
  cases e <;> simp [Effect.andThen]

theorem Effect.andThen_eq_raise {e : Effect} {k : State → Effect} {x : FaultKind} {t : State} :
    e.andThen k = .raise x t ↔ e = .raise x t ∨ ∃ u, e = .done u ∧ k u = .raise x t := by
  cases e <;> simp [Effect.andThen]

@[simp] theorem conclude_done (pc0 : Word) (n : Nat) (s : State) :
    conclude pc0 n (.done s) = .next { s with cycles := n } := rfl
@[simp] theorem conclude_raise (pc0 : Word) (n : Nat) (x : FaultKind) (s : State) :
    conclude pc0 n (.raise x s) = raiseFault x pc0 s := rfl

theorem conclude_eq_next {pc0 : Word} {n : Nat} {e : Effect} {t : State} :
    conclude pc0 n e = .next t ↔ ∃ u, e = .done u ∧ t = { u with cycles := n } := by
  cases e <;> simp [conclude, raiseFault, eq_comm]

theorem conclude_eq_fault {pc0 : Word} {n : Nat} {e : Effect} {f : Fault} :
    conclude pc0 n e = .fault f ↔
      ∃ x u, e = .raise x u ∧ f = Fault.ofRecord ⟨x, pc0⟩ { u with fault := some ⟨x, pc0⟩ } := by
  cases e <;> simp [conclude, raiseFault, eq_comm]

theorem conclude_ne_refused {pc0 : Word} {n : Nat} {e : Effect} {r : Refusal} : conclude pc0 n e ≠ .refused r := by
  cases e <;> simp [conclude, raiseFault]

theorem mapNext_eq_next {g : State → State} {o : Out} {t : State} :
    mapNext g o = .next t ↔ ∃ u, o = .next u ∧ t = g u := by
  cases o <;> simp [mapNext, eq_comm]

theorem mapNext_eq_fault {g : State → State} {o : Out} {f : Fault} : mapNext g o = .fault f ↔ o = .fault f := by
  cases o <;> simp [mapNext]

/-! ## Faults -/

@[simp] theorem Fault.record_ofRecord (r : FaultRecord) (s : State) : (Fault.ofRecord r s).record = r := by
  rcases r with ⟨_ | _, _⟩ <;> rfl

@[simp] theorem Fault.left_ofRecord (r : FaultRecord) (s : State) : (Fault.ofRecord r s).left = s := by
  rcases r with ⟨_ | _, _⟩ <;> rfl

theorem Fault.ofRecord_record_left (f : Fault) : Fault.ofRecord f.record f.left = f := by
  cases f <;> rfl

/-! ## Instructions -/

theorem instr_eq_next {len : Nat} {n : Nat} {body : State → Effect} {s t : State} : instr len n body s = .next t ↔
    ∃ u, body { s with pc := s.pc + BitVec.ofNat 16 len } = .done u ∧ t = { u with cycles := n } :=
  conclude_eq_next

/-! ## The stack (40_load.md R200, R201) -/

/-- A push that succeeds made its two writes, the high byte first, and moved SP by 2. -/
theorem State.push16_done {s t : State} {v : Word} (h : s.push16 v = .done t) : ∃ u,
    { s with sp := s.sp - 1 }.write (s.sp - 1) (hiByte v) = .done u ∧
    { u with sp := s.sp - 1 - 1 }.write (s.sp - 1 - 1) (loByte v) = .done t := by
  obtain ⟨u, h1, h2⟩ := Effect.andThen_eq_done.1 h
  have e : u.sp = s.sp - 1 := (State.write_keeps h1).2.1
  rw [e] at h2
  exact ⟨u, h1, h2⟩

/-- A push that faults did so in its first write, or in its second after the first. -/
theorem State.push16_raise {s t : State} {v : Word} {k : FaultKind} (h : s.push16 v = .raise k t) :
    { s with sp := s.sp - 1 }.write (s.sp - 1) (hiByte v) = .raise k t ∨ ∃ u,
    { s with sp := s.sp - 1 }.write (s.sp - 1) (hiByte v) = .done u ∧
    { u with sp := s.sp - 1 - 1 }.write (s.sp - 1 - 1) (loByte v) = .raise k t := by
  rcases Effect.andThen_eq_raise.1 h with h | ⟨u, h1, h2⟩
  · exact .inl h
  · have e : u.sp = s.sp - 1 := (State.write_keeps h1).2.1
    rw [e] at h2
    exact .inr ⟨u, h1, h2⟩

/-! ## Operands -/

/-- Writing an `r` operand other than `(HL)` never faults and writes the register file only. -/
theorem State.put8_register {s : State} {y : R8} {v : Byte} (h : y ≠ .mem) :
    s.put8 y v = .done { s with regs := s.regs.put y v } := by
  cases y <;> first | rfl | exact absurd rfl h

theorem State.put8_mem (s : State) (v : Byte) : s.put8 .mem v = s.write s.regs.hl v := rfl

/-- The value of an operand, as the statements write it. -/
theorem State.get8_operand (s : State) (z : R8) : s.get8 z = s.operand z := by
  cases z <;> rfl

/-- Operands do not depend on PC. -/
theorem State.operand_pc (s : State) (z : R8) (q : Word) : { s with pc := q }.operand z = s.operand z := by
  cases z <;> rfl

/-- Reads do not depend on PC. -/
@[simp] theorem State.read_pc (s : State) (q a : Word) : { s with pc := q }.read a = s.read a :=
  State.read_congr (s := s) rfl rfl rfl rfl a

/-- Reads do not depend on SP. -/
@[simp] theorem State.read_sp (s : State) (q a : Word) : { s with sp := q }.read a = s.read a :=
  State.read_congr (s := s) rfl rfl rfl rfl a

/-- A write does not depend on the registers, SP or PC, and keeps them. -/
theorem State.write_move (s : State) (a : Word) (v : Byte) (r : Regs) (p q : Word) :
    { s with regs := r, sp := p, pc := q }.write a v = match s.write a v with
      | .done t => .done { t with regs := r, sp := p, pc := q }
      | .raise k t => .raise k { t with regs := r, sp := p, pc := q } := by
  rcases region_ranges a with h | h | h | h
  · rw [State.write_rom h, State.write_rom h]
  · rw [State.write_ram h.1 h.2, State.write_ram h.1 h.2]; rfl
  · rw [State.write_unusable h.1 h.2, State.write_unusable h.1 h.2]
    dsimp only
    cases s.launch.params.unusableWrite <;> rfl
  · rw [State.write_io h.1 h.2, State.write_io h.1 h.2]
    have copy (u : State) (b : Byte) (n : Nat) : { u with regs := r, sp := p, pc := q }.copyOam b n =
        { u.copyOam b n with regs := r, sp := p, pc := q } := by
      induction n with
      | zero => rfl
      | succ n ih => rw [State.copyOam, ih]; rfl
    have set (b : Word) (w : Byte) : { s with regs := r, sp := p, pc := q }.setByte b w =
        { s.setByte b w with regs := r, sp := p, pc := q } := rfl
    unfold State.ioWrite State.writeDma
    by_cases h1 : a = 0xFF04
    · simp only [if_pos h1]; rfl
    · by_cases h2 : a = 0xFF44
      · simp only [if_neg h1, if_pos h2]
      · by_cases h3 : a = 0xFF46
        · simp only [if_neg h1, if_neg h2, if_pos h3]
          cases s.launch.params.dmaMode
          · rfl
          · rfl
          · dsimp only
            rw [set, copy]
        · by_cases h4 : a = 0xFF50
          · simp only [if_neg h1, if_neg h2, if_neg h3, if_pos h4]
            unfold State.writeBoot
            dsimp only
            split <;> rfl
          · simp only [if_neg h1, if_neg h2, if_neg h3, if_neg h4]; rfl

end Sys2Proof.Machine
end

