-- ==== Sys2Proof/Laws/PerInstr.lean ====
section
/-! SUPPORT. The family `Length`: each instruction's encoding has its row's length (30_encoding.md R150, R155), and the
instruction is well formed. -/

/-- The encoding of an instruction is as long as its row says, and the instruction is well formed. -/
def Sys2Proof.Laws.Length.Statement (i : Sys2Proof.Instr) : Prop :=
  (Sys2Proof.encode i).length = i.length ∧ i.wellFormed = true

namespace Sys2Proof.Laws.Length

theorem nop : Statement .nop := ⟨rfl, rfl⟩
theorem ldBcN16 (nn : Word) : Statement (.ldBcN16 nn) := ⟨rfl, rfl⟩
theorem ldAtBcA : Statement .ldAtBcA := ⟨rfl, rfl⟩
theorem incBc : Statement .incBc := ⟨rfl, rfl⟩
theorem incB : Statement .incB := ⟨rfl, rfl⟩
theorem decB : Statement .decB := ⟨rfl, rfl⟩
theorem ldBN8 (n : Byte) : Statement (.ldBN8 n) := ⟨rfl, rfl⟩
theorem rlca : Statement .rlca := ⟨rfl, rfl⟩
theorem ldAtA16Sp (a : Word) : Statement (.ldAtA16Sp a) := ⟨rfl, rfl⟩
theorem addHlBc : Statement .addHlBc := ⟨rfl, rfl⟩
theorem ldAAtBc : Statement .ldAAtBc := ⟨rfl, rfl⟩
theorem decBc : Statement .decBc := ⟨rfl, rfl⟩
theorem incC : Statement .incC := ⟨rfl, rfl⟩
theorem decC : Statement .decC := ⟨rfl, rfl⟩
theorem ldCN8 (n : Byte) : Statement (.ldCN8 n) := ⟨rfl, rfl⟩
theorem rrca : Statement .rrca := ⟨rfl, rfl⟩
theorem stop (n : Byte) : Statement (.stop n) := ⟨rfl, rfl⟩
theorem ldDeN16 (nn : Word) : Statement (.ldDeN16 nn) := ⟨rfl, rfl⟩
theorem ldAtDeA : Statement .ldAtDeA := ⟨rfl, rfl⟩
theorem incDe : Statement .incDe := ⟨rfl, rfl⟩
theorem incD : Statement .incD := ⟨rfl, rfl⟩
theorem decD : Statement .decD := ⟨rfl, rfl⟩
theorem ldDN8 (n : Byte) : Statement (.ldDN8 n) := ⟨rfl, rfl⟩
theorem rla : Statement .rla := ⟨rfl, rfl⟩
theorem jrE8 (e : Byte) : Statement (.jrE8 e) := ⟨rfl, rfl⟩
theorem addHlDe : Statement .addHlDe := ⟨rfl, rfl⟩
theorem ldAAtDe : Statement .ldAAtDe := ⟨rfl, rfl⟩
theorem decDe : Statement .decDe := ⟨rfl, rfl⟩
theorem incE : Statement .incE := ⟨rfl, rfl⟩
theorem decE : Statement .decE := ⟨rfl, rfl⟩
theorem ldEN8 (n : Byte) : Statement (.ldEN8 n) := ⟨rfl, rfl⟩
theorem rra : Statement .rra := ⟨rfl, rfl⟩
theorem jrNzE8 (e : Byte) : Statement (.jrNzE8 e) := ⟨rfl, rfl⟩
theorem ldHlN16 (nn : Word) : Statement (.ldHlN16 nn) := ⟨rfl, rfl⟩
theorem ldAtHliA : Statement .ldAtHliA := ⟨rfl, rfl⟩
theorem incHl : Statement .incHl := ⟨rfl, rfl⟩
theorem incH : Statement .incH := ⟨rfl, rfl⟩
theorem decH : Statement .decH := ⟨rfl, rfl⟩
theorem ldHN8 (n : Byte) : Statement (.ldHN8 n) := ⟨rfl, rfl⟩
theorem daa : Statement .daa := ⟨rfl, rfl⟩
theorem jrZE8 (e : Byte) : Statement (.jrZE8 e) := ⟨rfl, rfl⟩
theorem addHlHl : Statement .addHlHl := ⟨rfl, rfl⟩
theorem ldAAtHli : Statement .ldAAtHli := ⟨rfl, rfl⟩
theorem decHl : Statement .decHl := ⟨rfl, rfl⟩
theorem incL : Statement .incL := ⟨rfl, rfl⟩
theorem decL : Statement .decL := ⟨rfl, rfl⟩
theorem ldLN8 (n : Byte) : Statement (.ldLN8 n) := ⟨rfl, rfl⟩
theorem cpl : Statement .cpl := ⟨rfl, rfl⟩
theorem jrNcE8 (e : Byte) : Statement (.jrNcE8 e) := ⟨rfl, rfl⟩
theorem ldSpN16 (nn : Word) : Statement (.ldSpN16 nn) := ⟨rfl, rfl⟩
theorem ldAtHldA : Statement .ldAtHldA := ⟨rfl, rfl⟩
theorem incSp : Statement .incSp := ⟨rfl, rfl⟩
theorem incAtHl : Statement .incAtHl := ⟨rfl, rfl⟩
theorem decAtHl : Statement .decAtHl := ⟨rfl, rfl⟩
theorem ldAtHlN8 (n : Byte) : Statement (.ldAtHlN8 n) := ⟨rfl, rfl⟩
theorem scf : Statement .scf := ⟨rfl, rfl⟩
theorem jrCE8 (e : Byte) : Statement (.jrCE8 e) := ⟨rfl, rfl⟩
theorem addHlSp : Statement .addHlSp := ⟨rfl, rfl⟩
theorem ldAAtHld : Statement .ldAAtHld := ⟨rfl, rfl⟩
theorem decSp : Statement .decSp := ⟨rfl, rfl⟩
theorem incA : Statement .incA := ⟨rfl, rfl⟩
theorem decA : Statement .decA := ⟨rfl, rfl⟩
theorem ldAN8 (n : Byte) : Statement (.ldAN8 n) := ⟨rfl, rfl⟩
theorem ccf : Statement .ccf := ⟨rfl, rfl⟩
theorem ldBB : Statement .ldBB := ⟨rfl, rfl⟩
theorem ldBC : Statement .ldBC := ⟨rfl, rfl⟩
theorem ldBD : Statement .ldBD := ⟨rfl, rfl⟩
theorem ldBE : Statement .ldBE := ⟨rfl, rfl⟩
theorem ldBH : Statement .ldBH := ⟨rfl, rfl⟩
theorem ldBL : Statement .ldBL := ⟨rfl, rfl⟩
theorem ldBAtHl : Statement .ldBAtHl := ⟨rfl, rfl⟩
theorem ldBA : Statement .ldBA := ⟨rfl, rfl⟩
theorem ldCB : Statement .ldCB := ⟨rfl, rfl⟩
theorem ldCC : Statement .ldCC := ⟨rfl, rfl⟩
theorem ldCD : Statement .ldCD := ⟨rfl, rfl⟩
theorem ldCE : Statement .ldCE := ⟨rfl, rfl⟩
theorem ldCH : Statement .ldCH := ⟨rfl, rfl⟩
theorem ldCL : Statement .ldCL := ⟨rfl, rfl⟩
theorem ldCAtHl : Statement .ldCAtHl := ⟨rfl, rfl⟩
theorem ldCA : Statement .ldCA := ⟨rfl, rfl⟩
theorem ldDB : Statement .ldDB := ⟨rfl, rfl⟩
theorem ldDC : Statement .ldDC := ⟨rfl, rfl⟩
theorem ldDD : Statement .ldDD := ⟨rfl, rfl⟩
theorem ldDE : Statement .ldDE := ⟨rfl, rfl⟩
theorem ldDH : Statement .ldDH := ⟨rfl, rfl⟩
theorem ldDL : Statement .ldDL := ⟨rfl, rfl⟩
theorem ldDAtHl : Statement .ldDAtHl := ⟨rfl, rfl⟩
theorem ldDA : Statement .ldDA := ⟨rfl, rfl⟩
theorem ldEB : Statement .ldEB := ⟨rfl, rfl⟩
theorem ldEC : Statement .ldEC := ⟨rfl, rfl⟩
theorem ldED : Statement .ldED := ⟨rfl, rfl⟩
theorem ldEE : Statement .ldEE := ⟨rfl, rfl⟩
theorem ldEH : Statement .ldEH := ⟨rfl, rfl⟩
theorem ldEL : Statement .ldEL := ⟨rfl, rfl⟩
theorem ldEAtHl : Statement .ldEAtHl := ⟨rfl, rfl⟩
theorem ldEA : Statement .ldEA := ⟨rfl, rfl⟩
theorem ldHB : Statement .ldHB := ⟨rfl, rfl⟩
theorem ldHC : Statement .ldHC := ⟨rfl, rfl⟩
theorem ldHD : Statement .ldHD := ⟨rfl, rfl⟩
theorem ldHE : Statement .ldHE := ⟨rfl, rfl⟩
theorem ldHH : Statement .ldHH := ⟨rfl, rfl⟩
theorem ldHL : Statement .ldHL := ⟨rfl, rfl⟩
theorem ldHAtHl : Statement .ldHAtHl := ⟨rfl, rfl⟩
theorem ldHA : Statement .ldHA := ⟨rfl, rfl⟩
theorem ldLB : Statement .ldLB := ⟨rfl, rfl⟩
theorem ldLC : Statement .ldLC := ⟨rfl, rfl⟩
theorem ldLD : Statement .ldLD := ⟨rfl, rfl⟩
theorem ldLE : Statement .ldLE := ⟨rfl, rfl⟩
theorem ldLH : Statement .ldLH := ⟨rfl, rfl⟩
theorem ldLL : Statement .ldLL := ⟨rfl, rfl⟩
theorem ldLAtHl : Statement .ldLAtHl := ⟨rfl, rfl⟩
theorem ldLA : Statement .ldLA := ⟨rfl, rfl⟩
theorem ldAtHlB : Statement .ldAtHlB := ⟨rfl, rfl⟩
theorem ldAtHlC : Statement .ldAtHlC := ⟨rfl, rfl⟩
theorem ldAtHlD : Statement .ldAtHlD := ⟨rfl, rfl⟩
theorem ldAtHlE : Statement .ldAtHlE := ⟨rfl, rfl⟩
theorem ldAtHlH : Statement .ldAtHlH := ⟨rfl, rfl⟩
theorem ldAtHlL : Statement .ldAtHlL := ⟨rfl, rfl⟩
theorem halt : Statement .halt := ⟨rfl, rfl⟩
theorem ldAtHlA : Statement .ldAtHlA := ⟨rfl, rfl⟩
theorem ldAB : Statement .ldAB := ⟨rfl, rfl⟩
theorem ldAC : Statement .ldAC := ⟨rfl, rfl⟩
theorem ldAD : Statement .ldAD := ⟨rfl, rfl⟩
theorem ldAE : Statement .ldAE := ⟨rfl, rfl⟩
theorem ldAH : Statement .ldAH := ⟨rfl, rfl⟩
theorem ldAL : Statement .ldAL := ⟨rfl, rfl⟩
theorem ldAAtHl : Statement .ldAAtHl := ⟨rfl, rfl⟩
theorem ldAA : Statement .ldAA := ⟨rfl, rfl⟩
theorem addAB : Statement .addAB := ⟨rfl, rfl⟩
theorem addAC : Statement .addAC := ⟨rfl, rfl⟩
theorem addAD : Statement .addAD := ⟨rfl, rfl⟩
theorem addAE : Statement .addAE := ⟨rfl, rfl⟩
theorem addAH : Statement .addAH := ⟨rfl, rfl⟩
theorem addAL : Statement .addAL := ⟨rfl, rfl⟩
theorem addAAtHl : Statement .addAAtHl := ⟨rfl, rfl⟩
theorem addAA : Statement .addAA := ⟨rfl, rfl⟩
theorem adcAB : Statement .adcAB := ⟨rfl, rfl⟩
theorem adcAC : Statement .adcAC := ⟨rfl, rfl⟩
theorem adcAD : Statement .adcAD := ⟨rfl, rfl⟩
theorem adcAE : Statement .adcAE := ⟨rfl, rfl⟩
theorem adcAH : Statement .adcAH := ⟨rfl, rfl⟩
theorem adcAL : Statement .adcAL := ⟨rfl, rfl⟩
theorem adcAAtHl : Statement .adcAAtHl := ⟨rfl, rfl⟩
theorem adcAA : Statement .adcAA := ⟨rfl, rfl⟩
theorem subB : Statement .subB := ⟨rfl, rfl⟩
theorem subC : Statement .subC := ⟨rfl, rfl⟩
theorem subD : Statement .subD := ⟨rfl, rfl⟩
theorem subE : Statement .subE := ⟨rfl, rfl⟩
theorem subH : Statement .subH := ⟨rfl, rfl⟩
theorem subL : Statement .subL := ⟨rfl, rfl⟩
theorem subAtHl : Statement .subAtHl := ⟨rfl, rfl⟩
theorem subA : Statement .subA := ⟨rfl, rfl⟩
theorem sbcAB : Statement .sbcAB := ⟨rfl, rfl⟩
theorem sbcAC : Statement .sbcAC := ⟨rfl, rfl⟩
theorem sbcAD : Statement .sbcAD := ⟨rfl, rfl⟩
theorem sbcAE : Statement .sbcAE := ⟨rfl, rfl⟩
theorem sbcAH : Statement .sbcAH := ⟨rfl, rfl⟩
theorem sbcAL : Statement .sbcAL := ⟨rfl, rfl⟩
theorem sbcAAtHl : Statement .sbcAAtHl := ⟨rfl, rfl⟩
theorem sbcAA : Statement .sbcAA := ⟨rfl, rfl⟩
theorem andB : Statement .andB := ⟨rfl, rfl⟩
theorem andC : Statement .andC := ⟨rfl, rfl⟩
theorem andD : Statement .andD := ⟨rfl, rfl⟩
theorem andE : Statement .andE := ⟨rfl, rfl⟩
theorem andH : Statement .andH := ⟨rfl, rfl⟩
theorem andL : Statement .andL := ⟨rfl, rfl⟩
theorem andAtHl : Statement .andAtHl := ⟨rfl, rfl⟩
theorem andA : Statement .andA := ⟨rfl, rfl⟩
theorem xorB : Statement .xorB := ⟨rfl, rfl⟩
theorem xorC : Statement .xorC := ⟨rfl, rfl⟩
theorem xorD : Statement .xorD := ⟨rfl, rfl⟩
theorem xorE : Statement .xorE := ⟨rfl, rfl⟩
theorem xorH : Statement .xorH := ⟨rfl, rfl⟩
theorem xorL : Statement .xorL := ⟨rfl, rfl⟩
theorem xorAtHl : Statement .xorAtHl := ⟨rfl, rfl⟩
theorem xorA : Statement .xorA := ⟨rfl, rfl⟩
theorem orB : Statement .orB := ⟨rfl, rfl⟩
theorem orC : Statement .orC := ⟨rfl, rfl⟩
theorem orD : Statement .orD := ⟨rfl, rfl⟩
theorem orE : Statement .orE := ⟨rfl, rfl⟩
theorem orH : Statement .orH := ⟨rfl, rfl⟩
theorem orL : Statement .orL := ⟨rfl, rfl⟩
theorem orAtHl : Statement .orAtHl := ⟨rfl, rfl⟩
theorem orA : Statement .orA := ⟨rfl, rfl⟩
theorem cpB : Statement .cpB := ⟨rfl, rfl⟩
theorem cpC : Statement .cpC := ⟨rfl, rfl⟩
theorem cpD : Statement .cpD := ⟨rfl, rfl⟩
theorem cpE : Statement .cpE := ⟨rfl, rfl⟩
theorem cpH : Statement .cpH := ⟨rfl, rfl⟩
theorem cpL : Statement .cpL := ⟨rfl, rfl⟩
theorem cpAtHl : Statement .cpAtHl := ⟨rfl, rfl⟩
theorem cpA : Statement .cpA := ⟨rfl, rfl⟩
theorem retNz : Statement .retNz := ⟨rfl, rfl⟩
theorem popBc : Statement .popBc := ⟨rfl, rfl⟩
theorem jpNzA16 (a : Word) : Statement (.jpNzA16 a) := ⟨rfl, rfl⟩
theorem jpA16 (a : Word) : Statement (.jpA16 a) := ⟨rfl, rfl⟩
theorem callNzA16 (a : Word) : Statement (.callNzA16 a) := ⟨rfl, rfl⟩
theorem pushBc : Statement .pushBc := ⟨rfl, rfl⟩
theorem addAN8 (n : Byte) : Statement (.addAN8 n) := ⟨rfl, rfl⟩
theorem rst00 : Statement .rst00 := ⟨rfl, rfl⟩
theorem retZ : Statement .retZ := ⟨rfl, rfl⟩
theorem ret : Statement .ret := ⟨rfl, rfl⟩
theorem jpZA16 (a : Word) : Statement (.jpZA16 a) := ⟨rfl, rfl⟩
theorem callZA16 (a : Word) : Statement (.callZA16 a) := ⟨rfl, rfl⟩
theorem callA16 (a : Word) : Statement (.callA16 a) := ⟨rfl, rfl⟩
theorem adcAN8 (n : Byte) : Statement (.adcAN8 n) := ⟨rfl, rfl⟩
theorem rst08 : Statement .rst08 := ⟨rfl, rfl⟩
theorem retNc : Statement .retNc := ⟨rfl, rfl⟩
theorem popDe : Statement .popDe := ⟨rfl, rfl⟩
theorem jpNcA16 (a : Word) : Statement (.jpNcA16 a) := ⟨rfl, rfl⟩
theorem undefinedD3 : Statement .undefinedD3 := ⟨rfl, rfl⟩
theorem callNcA16 (a : Word) : Statement (.callNcA16 a) := ⟨rfl, rfl⟩
theorem pushDe : Statement .pushDe := ⟨rfl, rfl⟩
theorem subN8 (n : Byte) : Statement (.subN8 n) := ⟨rfl, rfl⟩
theorem rst10 : Statement .rst10 := ⟨rfl, rfl⟩
theorem retC : Statement .retC := ⟨rfl, rfl⟩
theorem reti : Statement .reti := ⟨rfl, rfl⟩
theorem jpCA16 (a : Word) : Statement (.jpCA16 a) := ⟨rfl, rfl⟩
theorem undefinedDB : Statement .undefinedDB := ⟨rfl, rfl⟩
theorem callCA16 (a : Word) : Statement (.callCA16 a) := ⟨rfl, rfl⟩
theorem undefinedDD : Statement .undefinedDD := ⟨rfl, rfl⟩
theorem sbcAN8 (n : Byte) : Statement (.sbcAN8 n) := ⟨rfl, rfl⟩
theorem rst18 : Statement .rst18 := ⟨rfl, rfl⟩
theorem ldhAtA8A (a : Byte) : Statement (.ldhAtA8A a) := ⟨rfl, rfl⟩
theorem popHl : Statement .popHl := ⟨rfl, rfl⟩
theorem ldAtCA : Statement .ldAtCA := ⟨rfl, rfl⟩
theorem undefinedE3 : Statement .undefinedE3 := ⟨rfl, rfl⟩
theorem undefinedE4 : Statement .undefinedE4 := ⟨rfl, rfl⟩
theorem pushHl : Statement .pushHl := ⟨rfl, rfl⟩
theorem andN8 (n : Byte) : Statement (.andN8 n) := ⟨rfl, rfl⟩
theorem rst20 : Statement .rst20 := ⟨rfl, rfl⟩
theorem addSpE8 (e : Byte) : Statement (.addSpE8 e) := ⟨rfl, rfl⟩
theorem jpHl : Statement .jpHl := ⟨rfl, rfl⟩
theorem ldAtA16A (a : Word) : Statement (.ldAtA16A a) := ⟨rfl, rfl⟩
theorem undefinedEB : Statement .undefinedEB := ⟨rfl, rfl⟩
theorem undefinedEC : Statement .undefinedEC := ⟨rfl, rfl⟩
theorem undefinedED : Statement .undefinedED := ⟨rfl, rfl⟩
theorem xorN8 (n : Byte) : Statement (.xorN8 n) := ⟨rfl, rfl⟩
theorem rst28 : Statement .rst28 := ⟨rfl, rfl⟩
theorem ldhAAtA8 (a : Byte) : Statement (.ldhAAtA8 a) := ⟨rfl, rfl⟩
theorem popAf : Statement .popAf := ⟨rfl, rfl⟩
theorem ldAAtC : Statement .ldAAtC := ⟨rfl, rfl⟩
theorem di : Statement .di := ⟨rfl, rfl⟩
theorem undefinedF4 : Statement .undefinedF4 := ⟨rfl, rfl⟩
theorem pushAf : Statement .pushAf := ⟨rfl, rfl⟩
theorem orN8 (n : Byte) : Statement (.orN8 n) := ⟨rfl, rfl⟩
theorem rst30 : Statement .rst30 := ⟨rfl, rfl⟩
theorem ldHlSpE8 (e : Byte) : Statement (.ldHlSpE8 e) := ⟨rfl, rfl⟩
theorem ldSpHl : Statement .ldSpHl := ⟨rfl, rfl⟩
theorem ldAAtA16 (a : Word) : Statement (.ldAAtA16 a) := ⟨rfl, rfl⟩
theorem ei : Statement .ei := ⟨rfl, rfl⟩
theorem undefinedFC : Statement .undefinedFC := ⟨rfl, rfl⟩
theorem undefinedFD : Statement .undefinedFD := ⟨rfl, rfl⟩
theorem cpN8 (n : Byte) : Statement (.cpN8 n) := ⟨rfl, rfl⟩
theorem rst38 : Statement .rst38 := ⟨rfl, rfl⟩
theorem rlcB : Statement .rlcB := ⟨rfl, rfl⟩
theorem rlcC : Statement .rlcC := ⟨rfl, rfl⟩
theorem rlcD : Statement .rlcD := ⟨rfl, rfl⟩
theorem rlcE : Statement .rlcE := ⟨rfl, rfl⟩
theorem rlcH : Statement .rlcH := ⟨rfl, rfl⟩
theorem rlcL : Statement .rlcL := ⟨rfl, rfl⟩
theorem rlcAtHl : Statement .rlcAtHl := ⟨rfl, rfl⟩
theorem rlcA : Statement .rlcA := ⟨rfl, rfl⟩
theorem rrcB : Statement .rrcB := ⟨rfl, rfl⟩
theorem rrcC : Statement .rrcC := ⟨rfl, rfl⟩
theorem rrcD : Statement .rrcD := ⟨rfl, rfl⟩
theorem rrcE : Statement .rrcE := ⟨rfl, rfl⟩
theorem rrcH : Statement .rrcH := ⟨rfl, rfl⟩
theorem rrcL : Statement .rrcL := ⟨rfl, rfl⟩
theorem rrcAtHl : Statement .rrcAtHl := ⟨rfl, rfl⟩
theorem rrcA : Statement .rrcA := ⟨rfl, rfl⟩
theorem rlB : Statement .rlB := ⟨rfl, rfl⟩
theorem rlC : Statement .rlC := ⟨rfl, rfl⟩
theorem rlD : Statement .rlD := ⟨rfl, rfl⟩
theorem rlE : Statement .rlE := ⟨rfl, rfl⟩
theorem rlH : Statement .rlH := ⟨rfl, rfl⟩
theorem rlL : Statement .rlL := ⟨rfl, rfl⟩
theorem rlAtHl : Statement .rlAtHl := ⟨rfl, rfl⟩
theorem rlA : Statement .rlA := ⟨rfl, rfl⟩
theorem rrB : Statement .rrB := ⟨rfl, rfl⟩
theorem rrC : Statement .rrC := ⟨rfl, rfl⟩
theorem rrD : Statement .rrD := ⟨rfl, rfl⟩
theorem rrE : Statement .rrE := ⟨rfl, rfl⟩
theorem rrH : Statement .rrH := ⟨rfl, rfl⟩
theorem rrL : Statement .rrL := ⟨rfl, rfl⟩
theorem rrAtHl : Statement .rrAtHl := ⟨rfl, rfl⟩
theorem rrA : Statement .rrA := ⟨rfl, rfl⟩
theorem slaB : Statement .slaB := ⟨rfl, rfl⟩
theorem slaC : Statement .slaC := ⟨rfl, rfl⟩
theorem slaD : Statement .slaD := ⟨rfl, rfl⟩
theorem slaE : Statement .slaE := ⟨rfl, rfl⟩
theorem slaH : Statement .slaH := ⟨rfl, rfl⟩
theorem slaL : Statement .slaL := ⟨rfl, rfl⟩
theorem slaAtHl : Statement .slaAtHl := ⟨rfl, rfl⟩
theorem slaA : Statement .slaA := ⟨rfl, rfl⟩
theorem sraB : Statement .sraB := ⟨rfl, rfl⟩
theorem sraC : Statement .sraC := ⟨rfl, rfl⟩
theorem sraD : Statement .sraD := ⟨rfl, rfl⟩
theorem sraE : Statement .sraE := ⟨rfl, rfl⟩
theorem sraH : Statement .sraH := ⟨rfl, rfl⟩
theorem sraL : Statement .sraL := ⟨rfl, rfl⟩
theorem sraAtHl : Statement .sraAtHl := ⟨rfl, rfl⟩
theorem sraA : Statement .sraA := ⟨rfl, rfl⟩
theorem swapB : Statement .swapB := ⟨rfl, rfl⟩
theorem swapC : Statement .swapC := ⟨rfl, rfl⟩
theorem swapD : Statement .swapD := ⟨rfl, rfl⟩
theorem swapE : Statement .swapE := ⟨rfl, rfl⟩
theorem swapH : Statement .swapH := ⟨rfl, rfl⟩
theorem swapL : Statement .swapL := ⟨rfl, rfl⟩
theorem swapAtHl : Statement .swapAtHl := ⟨rfl, rfl⟩
theorem swapA : Statement .swapA := ⟨rfl, rfl⟩
theorem srlB : Statement .srlB := ⟨rfl, rfl⟩
theorem srlC : Statement .srlC := ⟨rfl, rfl⟩
theorem srlD : Statement .srlD := ⟨rfl, rfl⟩
theorem srlE : Statement .srlE := ⟨rfl, rfl⟩
theorem srlH : Statement .srlH := ⟨rfl, rfl⟩
theorem srlL : Statement .srlL := ⟨rfl, rfl⟩
theorem srlAtHl : Statement .srlAtHl := ⟨rfl, rfl⟩
theorem srlA : Statement .srlA := ⟨rfl, rfl⟩
theorem bit0B : Statement .bit0B := ⟨rfl, rfl⟩
theorem bit0C : Statement .bit0C := ⟨rfl, rfl⟩
theorem bit0D : Statement .bit0D := ⟨rfl, rfl⟩
theorem bit0E : Statement .bit0E := ⟨rfl, rfl⟩
theorem bit0H : Statement .bit0H := ⟨rfl, rfl⟩
theorem bit0L : Statement .bit0L := ⟨rfl, rfl⟩
theorem bit0AtHl : Statement .bit0AtHl := ⟨rfl, rfl⟩
theorem bit0A : Statement .bit0A := ⟨rfl, rfl⟩
theorem bit1B : Statement .bit1B := ⟨rfl, rfl⟩
theorem bit1C : Statement .bit1C := ⟨rfl, rfl⟩
theorem bit1D : Statement .bit1D := ⟨rfl, rfl⟩
theorem bit1E : Statement .bit1E := ⟨rfl, rfl⟩
theorem bit1H : Statement .bit1H := ⟨rfl, rfl⟩
theorem bit1L : Statement .bit1L := ⟨rfl, rfl⟩
theorem bit1AtHl : Statement .bit1AtHl := ⟨rfl, rfl⟩
theorem bit1A : Statement .bit1A := ⟨rfl, rfl⟩
theorem bit2B : Statement .bit2B := ⟨rfl, rfl⟩
theorem bit2C : Statement .bit2C := ⟨rfl, rfl⟩
theorem bit2D : Statement .bit2D := ⟨rfl, rfl⟩
theorem bit2E : Statement .bit2E := ⟨rfl, rfl⟩
theorem bit2H : Statement .bit2H := ⟨rfl, rfl⟩
theorem bit2L : Statement .bit2L := ⟨rfl, rfl⟩
theorem bit2AtHl : Statement .bit2AtHl := ⟨rfl, rfl⟩
theorem bit2A : Statement .bit2A := ⟨rfl, rfl⟩
theorem bit3B : Statement .bit3B := ⟨rfl, rfl⟩
theorem bit3C : Statement .bit3C := ⟨rfl, rfl⟩
theorem bit3D : Statement .bit3D := ⟨rfl, rfl⟩
theorem bit3E : Statement .bit3E := ⟨rfl, rfl⟩
theorem bit3H : Statement .bit3H := ⟨rfl, rfl⟩
theorem bit3L : Statement .bit3L := ⟨rfl, rfl⟩
theorem bit3AtHl : Statement .bit3AtHl := ⟨rfl, rfl⟩
theorem bit3A : Statement .bit3A := ⟨rfl, rfl⟩
theorem bit4B : Statement .bit4B := ⟨rfl, rfl⟩
theorem bit4C : Statement .bit4C := ⟨rfl, rfl⟩
theorem bit4D : Statement .bit4D := ⟨rfl, rfl⟩
theorem bit4E : Statement .bit4E := ⟨rfl, rfl⟩
theorem bit4H : Statement .bit4H := ⟨rfl, rfl⟩
theorem bit4L : Statement .bit4L := ⟨rfl, rfl⟩
theorem bit4AtHl : Statement .bit4AtHl := ⟨rfl, rfl⟩
theorem bit4A : Statement .bit4A := ⟨rfl, rfl⟩
theorem bit5B : Statement .bit5B := ⟨rfl, rfl⟩
theorem bit5C : Statement .bit5C := ⟨rfl, rfl⟩
theorem bit5D : Statement .bit5D := ⟨rfl, rfl⟩
theorem bit5E : Statement .bit5E := ⟨rfl, rfl⟩
theorem bit5H : Statement .bit5H := ⟨rfl, rfl⟩
theorem bit5L : Statement .bit5L := ⟨rfl, rfl⟩
theorem bit5AtHl : Statement .bit5AtHl := ⟨rfl, rfl⟩
theorem bit5A : Statement .bit5A := ⟨rfl, rfl⟩
theorem bit6B : Statement .bit6B := ⟨rfl, rfl⟩
theorem bit6C : Statement .bit6C := ⟨rfl, rfl⟩
theorem bit6D : Statement .bit6D := ⟨rfl, rfl⟩
theorem bit6E : Statement .bit6E := ⟨rfl, rfl⟩
theorem bit6H : Statement .bit6H := ⟨rfl, rfl⟩
theorem bit6L : Statement .bit6L := ⟨rfl, rfl⟩
theorem bit6AtHl : Statement .bit6AtHl := ⟨rfl, rfl⟩
theorem bit6A : Statement .bit6A := ⟨rfl, rfl⟩
theorem bit7B : Statement .bit7B := ⟨rfl, rfl⟩
theorem bit7C : Statement .bit7C := ⟨rfl, rfl⟩
theorem bit7D : Statement .bit7D := ⟨rfl, rfl⟩
theorem bit7E : Statement .bit7E := ⟨rfl, rfl⟩
theorem bit7H : Statement .bit7H := ⟨rfl, rfl⟩
theorem bit7L : Statement .bit7L := ⟨rfl, rfl⟩
theorem bit7AtHl : Statement .bit7AtHl := ⟨rfl, rfl⟩
theorem bit7A : Statement .bit7A := ⟨rfl, rfl⟩
theorem res0B : Statement .res0B := ⟨rfl, rfl⟩
theorem res0C : Statement .res0C := ⟨rfl, rfl⟩
theorem res0D : Statement .res0D := ⟨rfl, rfl⟩
theorem res0E : Statement .res0E := ⟨rfl, rfl⟩
theorem res0H : Statement .res0H := ⟨rfl, rfl⟩
theorem res0L : Statement .res0L := ⟨rfl, rfl⟩
theorem res0AtHl : Statement .res0AtHl := ⟨rfl, rfl⟩
theorem res0A : Statement .res0A := ⟨rfl, rfl⟩
theorem res1B : Statement .res1B := ⟨rfl, rfl⟩
theorem res1C : Statement .res1C := ⟨rfl, rfl⟩
theorem res1D : Statement .res1D := ⟨rfl, rfl⟩
theorem res1E : Statement .res1E := ⟨rfl, rfl⟩
theorem res1H : Statement .res1H := ⟨rfl, rfl⟩
theorem res1L : Statement .res1L := ⟨rfl, rfl⟩
theorem res1AtHl : Statement .res1AtHl := ⟨rfl, rfl⟩
theorem res1A : Statement .res1A := ⟨rfl, rfl⟩
theorem res2B : Statement .res2B := ⟨rfl, rfl⟩
theorem res2C : Statement .res2C := ⟨rfl, rfl⟩
theorem res2D : Statement .res2D := ⟨rfl, rfl⟩
theorem res2E : Statement .res2E := ⟨rfl, rfl⟩
theorem res2H : Statement .res2H := ⟨rfl, rfl⟩
theorem res2L : Statement .res2L := ⟨rfl, rfl⟩
theorem res2AtHl : Statement .res2AtHl := ⟨rfl, rfl⟩
theorem res2A : Statement .res2A := ⟨rfl, rfl⟩
theorem res3B : Statement .res3B := ⟨rfl, rfl⟩
theorem res3C : Statement .res3C := ⟨rfl, rfl⟩
theorem res3D : Statement .res3D := ⟨rfl, rfl⟩
theorem res3E : Statement .res3E := ⟨rfl, rfl⟩
theorem res3H : Statement .res3H := ⟨rfl, rfl⟩
theorem res3L : Statement .res3L := ⟨rfl, rfl⟩
theorem res3AtHl : Statement .res3AtHl := ⟨rfl, rfl⟩
theorem res3A : Statement .res3A := ⟨rfl, rfl⟩
theorem res4B : Statement .res4B := ⟨rfl, rfl⟩
theorem res4C : Statement .res4C := ⟨rfl, rfl⟩
theorem res4D : Statement .res4D := ⟨rfl, rfl⟩
theorem res4E : Statement .res4E := ⟨rfl, rfl⟩
theorem res4H : Statement .res4H := ⟨rfl, rfl⟩
theorem res4L : Statement .res4L := ⟨rfl, rfl⟩
theorem res4AtHl : Statement .res4AtHl := ⟨rfl, rfl⟩
theorem res4A : Statement .res4A := ⟨rfl, rfl⟩
theorem res5B : Statement .res5B := ⟨rfl, rfl⟩
theorem res5C : Statement .res5C := ⟨rfl, rfl⟩
theorem res5D : Statement .res5D := ⟨rfl, rfl⟩
theorem res5E : Statement .res5E := ⟨rfl, rfl⟩
theorem res5H : Statement .res5H := ⟨rfl, rfl⟩
theorem res5L : Statement .res5L := ⟨rfl, rfl⟩
theorem res5AtHl : Statement .res5AtHl := ⟨rfl, rfl⟩
theorem res5A : Statement .res5A := ⟨rfl, rfl⟩
theorem res6B : Statement .res6B := ⟨rfl, rfl⟩
theorem res6C : Statement .res6C := ⟨rfl, rfl⟩
theorem res6D : Statement .res6D := ⟨rfl, rfl⟩
theorem res6E : Statement .res6E := ⟨rfl, rfl⟩
theorem res6H : Statement .res6H := ⟨rfl, rfl⟩
theorem res6L : Statement .res6L := ⟨rfl, rfl⟩
theorem res6AtHl : Statement .res6AtHl := ⟨rfl, rfl⟩
theorem res6A : Statement .res6A := ⟨rfl, rfl⟩
theorem res7B : Statement .res7B := ⟨rfl, rfl⟩
theorem res7C : Statement .res7C := ⟨rfl, rfl⟩
theorem res7D : Statement .res7D := ⟨rfl, rfl⟩
theorem res7E : Statement .res7E := ⟨rfl, rfl⟩
theorem res7H : Statement .res7H := ⟨rfl, rfl⟩
theorem res7L : Statement .res7L := ⟨rfl, rfl⟩
theorem res7AtHl : Statement .res7AtHl := ⟨rfl, rfl⟩
theorem res7A : Statement .res7A := ⟨rfl, rfl⟩
theorem set0B : Statement .set0B := ⟨rfl, rfl⟩
theorem set0C : Statement .set0C := ⟨rfl, rfl⟩
theorem set0D : Statement .set0D := ⟨rfl, rfl⟩
theorem set0E : Statement .set0E := ⟨rfl, rfl⟩
theorem set0H : Statement .set0H := ⟨rfl, rfl⟩
theorem set0L : Statement .set0L := ⟨rfl, rfl⟩
theorem set0AtHl : Statement .set0AtHl := ⟨rfl, rfl⟩
theorem set0A : Statement .set0A := ⟨rfl, rfl⟩
theorem set1B : Statement .set1B := ⟨rfl, rfl⟩
theorem set1C : Statement .set1C := ⟨rfl, rfl⟩
theorem set1D : Statement .set1D := ⟨rfl, rfl⟩
theorem set1E : Statement .set1E := ⟨rfl, rfl⟩
theorem set1H : Statement .set1H := ⟨rfl, rfl⟩
theorem set1L : Statement .set1L := ⟨rfl, rfl⟩
theorem set1AtHl : Statement .set1AtHl := ⟨rfl, rfl⟩
theorem set1A : Statement .set1A := ⟨rfl, rfl⟩
theorem set2B : Statement .set2B := ⟨rfl, rfl⟩
theorem set2C : Statement .set2C := ⟨rfl, rfl⟩
theorem set2D : Statement .set2D := ⟨rfl, rfl⟩
theorem set2E : Statement .set2E := ⟨rfl, rfl⟩
theorem set2H : Statement .set2H := ⟨rfl, rfl⟩
theorem set2L : Statement .set2L := ⟨rfl, rfl⟩
theorem set2AtHl : Statement .set2AtHl := ⟨rfl, rfl⟩
theorem set2A : Statement .set2A := ⟨rfl, rfl⟩
theorem set3B : Statement .set3B := ⟨rfl, rfl⟩
theorem set3C : Statement .set3C := ⟨rfl, rfl⟩
theorem set3D : Statement .set3D := ⟨rfl, rfl⟩
theorem set3E : Statement .set3E := ⟨rfl, rfl⟩
theorem set3H : Statement .set3H := ⟨rfl, rfl⟩
theorem set3L : Statement .set3L := ⟨rfl, rfl⟩
theorem set3AtHl : Statement .set3AtHl := ⟨rfl, rfl⟩
theorem set3A : Statement .set3A := ⟨rfl, rfl⟩
theorem set4B : Statement .set4B := ⟨rfl, rfl⟩
theorem set4C : Statement .set4C := ⟨rfl, rfl⟩
theorem set4D : Statement .set4D := ⟨rfl, rfl⟩
theorem set4E : Statement .set4E := ⟨rfl, rfl⟩
theorem set4H : Statement .set4H := ⟨rfl, rfl⟩
theorem set4L : Statement .set4L := ⟨rfl, rfl⟩
theorem set4AtHl : Statement .set4AtHl := ⟨rfl, rfl⟩
theorem set4A : Statement .set4A := ⟨rfl, rfl⟩
theorem set5B : Statement .set5B := ⟨rfl, rfl⟩
theorem set5C : Statement .set5C := ⟨rfl, rfl⟩
theorem set5D : Statement .set5D := ⟨rfl, rfl⟩
theorem set5E : Statement .set5E := ⟨rfl, rfl⟩
theorem set5H : Statement .set5H := ⟨rfl, rfl⟩
theorem set5L : Statement .set5L := ⟨rfl, rfl⟩
theorem set5AtHl : Statement .set5AtHl := ⟨rfl, rfl⟩
theorem set5A : Statement .set5A := ⟨rfl, rfl⟩
theorem set6B : Statement .set6B := ⟨rfl, rfl⟩
theorem set6C : Statement .set6C := ⟨rfl, rfl⟩
theorem set6D : Statement .set6D := ⟨rfl, rfl⟩
theorem set6E : Statement .set6E := ⟨rfl, rfl⟩
theorem set6H : Statement .set6H := ⟨rfl, rfl⟩
theorem set6L : Statement .set6L := ⟨rfl, rfl⟩
theorem set6AtHl : Statement .set6AtHl := ⟨rfl, rfl⟩
theorem set6A : Statement .set6A := ⟨rfl, rfl⟩
theorem set7B : Statement .set7B := ⟨rfl, rfl⟩
theorem set7C : Statement .set7C := ⟨rfl, rfl⟩
theorem set7D : Statement .set7D := ⟨rfl, rfl⟩
theorem set7E : Statement .set7E := ⟨rfl, rfl⟩
theorem set7H : Statement .set7H := ⟨rfl, rfl⟩
theorem set7L : Statement .set7L := ⟨rfl, rfl⟩
theorem set7AtHl : Statement .set7AtHl := ⟨rfl, rfl⟩
theorem set7A : Statement .set7A := ⟨rfl, rfl⟩

end Sys2Proof.Laws.Length
end

