-- ==== Sys2Proof/Laws/Sched.lean ====
section
/-! SUPPORT. The scheduler: its fuel never cuts the loop short, cycles given in parts add up, and what a transition and the
whole loop can change. -/

namespace Sys2Proof.Machine

theorem Mode.duration_ge (m : Mode) : 80 ≤ m.duration := by
  cases m <;> decide

@[simp] theorem State.setAcc_setAcc (s : State) (x y : Nat) : (s.setAcc x).setAcc y = s.setAcc y := rfl

theorem State.setAcc_self (s : State) : s.setAcc s.gpu.acc = s := rfl

/-- A transition neither reads nor writes `acc`. -/
theorem State.setAcc_transition (s : State) (x : Nat) : (s.setAcc x).transition = s.transition.setAcc x := by
  unfold State.transition
  rw [show (s.setAcc x).gpu.mode = s.gpu.mode from rfl]
  cases s.gpu.mode
  · rfl
  · rfl
  · dsimp only
    rw [show (s.setAcc x).nextLine.gpu.scanline = s.nextLine.gpu.scanline from rfl]
    split <;> rfl
  · dsimp only
    rw [show (s.setAcc x).nextLine.gpu.scanline = s.nextLine.gpu.scanline from rfl]
    split <;> rfl

@[simp] theorem State.transition_acc (s : State) : s.transition.gpu.acc = s.gpu.acc := by
  have h := State.setAcc_transition s s.gpu.acc
  rw [State.setAcc_self] at h
  rw [h]; rfl

/-! ## Fuel -/

/-- Below the mode's duration the loop stops. -/
theorem schedLoop_stop {n : Nat} {s : State} (h : s.gpu.acc < s.gpu.mode.duration) : schedLoop n s = s := by
  cases n with
  | zero => rfl
  | succ n => unfold schedLoop; rw [if_neg (by omega)]

/-- One time round the loop. -/
theorem schedLoop_step {n : Nat} {s : State} (h : s.gpu.mode.duration ≤ s.gpu.acc) :
    schedLoop (n + 1) s = schedLoop n (s.setAcc (s.gpu.acc - s.gpu.mode.duration)).transition := by
  rw [schedLoop, if_pos h]

/-- Fuel beyond `acc / 80` changes nothing. -/
theorem schedLoop_fuel {n k : Nat} {s : State} (h : s.gpu.acc < 80 * (n + 1)) : schedLoop (n + k) s = schedLoop n s := by
  induction n generalizing s with
  | zero =>
    have := s.gpu.mode.duration_ge
    rw [schedLoop_stop (by omega), schedLoop_stop (by omega)]
  | succ n ih =>
    have := s.gpu.mode.duration_ge
    by_cases e : s.gpu.mode.duration ≤ s.gpu.acc
    · rw [Nat.add_right_comm, schedLoop_step e, schedLoop_step e]
      apply ih
      rw [State.transition_acc, State.setAcc_gpu]
      dsimp only
      omega
    · rw [schedLoop_stop (by omega), schedLoop_stop (by omega)]

/-- The scheduler with any fuel that is enough. -/
theorem sched_fuel {c n : Nat} {s : State} (h : s.gpu.acc + c < 80 * (n + 1)) :
    sched c s = schedLoop n (s.setAcc (s.gpu.acc + c)) := by
  unfold sched
  have hn : (s.gpu.acc + c) / 80 ≤ n := by omega
  obtain ⟨k, rfl⟩ := Nat.exists_eq_add_of_le hn
  rw [schedLoop_fuel]
  rw [State.setAcc_gpu]
  dsimp only
  omega

/-- Fewer cycles than the mode has left only accumulate. -/
theorem sched_short {c : Nat} {s : State} (h : s.gpu.acc + c < s.gpu.mode.duration) :
    sched c s = s.setAcc (s.gpu.acc + c) := by
  unfold sched
  exact schedLoop_stop h

/-- With enough cycles, the scheduler makes its transition and goes on with the rest. -/
theorem sched_long {c : Nat} {s : State} (h : s.gpu.mode.duration ≤ s.gpu.acc + c) :
    sched c s = sched (s.gpu.acc + c - s.gpu.mode.duration) (s.setAcc 0).transition := by
  have := s.gpu.mode.duration_ge
  rw [sched_fuel (n := (s.gpu.acc + c) / 80 + 1) (by omega), schedLoop_step (by simpa using h),
    sched_fuel (n := (s.gpu.acc + c) / 80)]
  · rw [← State.setAcc_transition]
    simp
  · simp; omega

/-- What holds of a state with its cycles given and is kept by transitions holds when the loop ends. -/
theorem sched_induction {P : State → Prop} {s : State} {c : Nat} (h : P (s.setAcc (s.gpu.acc + c)))
    (step : ∀ u, P u → u.gpu.mode.duration ≤ u.gpu.acc → P (u.setAcc (u.gpu.acc - u.gpu.mode.duration)).transition) :
    P (sched c s) := by
  unfold sched
  generalize s.setAcc (s.gpu.acc + c) = u at h
  generalize (s.gpu.acc + c) / 80 = n
  induction n generalizing u with
  | zero => exact h
  | succ n ih =>
    unfold schedLoop
    split
    · next e => exact ih _ (step u h e)
    · exact h

/-- When the loop ends, `acc` is below the mode's duration. -/
theorem sched_acc (c : Nat) (s : State) : (sched c s).gpu.acc < (sched c s).gpu.mode.duration := by
  unfold sched
  have h : (s.setAcc (s.gpu.acc + c)).gpu.acc < 80 * ((s.gpu.acc + c) / 80 + 1) := by
    rw [State.setAcc_gpu]; dsimp only; omega
  generalize s.setAcc (s.gpu.acc + c) = u at h
  generalize (s.gpu.acc + c) / 80 = n at h
  induction n generalizing u with
  | zero =>
    have := u.gpu.mode.duration_ge
    rw [schedLoop_stop (by omega)]; omega
  | succ n ih =>
    have := u.gpu.mode.duration_ge
    by_cases e : u.gpu.mode.duration ≤ u.gpu.acc
    · rw [schedLoop_step e]
      apply ih
      rw [State.transition_acc, State.setAcc_gpu]
      dsimp only
      omega
    · rw [schedLoop_stop (by omega)]; omega

/-! ## What the scheduler changes -/

/-- A transition leaves `mem`, or stores the VBlank request, which it does exactly with a frame-complete signal. -/
theorem State.transition_mem (s : State) :
    (s.transition.mem = s.mem ∧ s.transition.gpu.frameSignals = s.gpu.frameSignals) ∨
    (s.transition.mem = s.mem.write 0xFF0F (s.iflag ||| 0x01) ∧
      s.transition.gpu.frameSignals = s.gpu.frameSignals + 1) := by
  unfold State.transition
  dsimp only
  split
  · exact .inl ⟨rfl, rfl⟩
  · exact .inl ⟨rfl, rfl⟩
  · split
    · exact .inr ⟨rfl, rfl⟩
    · exact .inl ⟨rfl, rfl⟩
  · split
    · exact .inl ⟨rfl, rfl⟩
    · exact .inl ⟨rfl, rfl⟩

/-- The scheduler changes `gpu` and `mem` only. -/
theorem sched_eq (c : Nat) (s : State) : sched c s = { s with gpu := (sched c s).gpu, mem := (sched c s).mem } := by
  refine sched_induction (P := fun u => u = { s with gpu := u.gpu, mem := u.mem }) rfl ?_
  intro u hu _
  have h (v : State) : v.transition = { v with gpu := v.transition.gpu, mem := v.transition.mem } := by
    unfold State.transition
    dsimp only
    split
    · rfl
    · rfl
    · split <;> rfl
    · split <;> rfl
  rw [h]
  generalize State.transition _ = w
  rw [hu]
  rfl

/-- A transition's effect on the scheduler's own state depends on that state and the parameters only. -/
theorem State.transition_gpu_congr {s t : State} (hg : t.gpu = s.gpu) (hl : t.launch = s.launch) :
    t.transition.gpu = s.transition.gpu := by
  have e : t.nextLine.gpu.scanline = s.nextLine.gpu.scanline := by simp [hg]
  unfold State.transition
  rw [hg]
  cases s.gpu.mode
  · exact congrArg (fun g => { g with mode := .vramRead }) hg
  · exact congrArg (fun g => { g with mode := .hblank }) hg
  · dsimp only
    rw [e]
    split
    · simp [hg, hl]; rfl
    · simp [hg]
  · dsimp only
    rw [e]
    split
    · simp [hg, hl]; rfl
    · simp [hg]

/-- The scheduler's own state evolves from that state and the parameters only. -/
theorem sched_gpu_congr {s t : State} (hg : t.gpu = s.gpu) (hl : t.launch = s.launch) (c : Nat) :
    (sched c t).gpu = (sched c s).gpu := by
  unfold sched
  rw [hg]
  generalize (s.gpu.acc + c) / 80 = n
  have h1 : (t.setAcc (s.gpu.acc + c)).gpu = (s.setAcc (s.gpu.acc + c)).gpu := by simp [hg]
  have h2 : (t.setAcc (s.gpu.acc + c)).launch = (s.setAcc (s.gpu.acc + c)).launch := by simp [hl]
  generalize s.setAcc (s.gpu.acc + c) = a at h1 h2
  generalize t.setAcc (s.gpu.acc + c) = b at h1 h2
  induction n generalizing a b with
  | zero => exact h1
  | succ n ih =>
    unfold schedLoop
    rw [h1]
    split
    · apply ih
      · apply State.transition_gpu_congr <;> simp [h1, h2]
      · simp [h2]
    · exact h1

end Sys2Proof.Machine
end

