-- ==== Sys2Proof/Laws/Shape.lean ====
section
/-! SUPPORT. Once for all, what an instruction can do: write registers and control state only, make one store, push, or one of
three special cases; with what it keeps. Proofs about every instruction are case analyses of `exec_shape`. -/

namespace Sys2Proof.Machine

/-! ## Flags -/

@[simp] theorem Flags.pack_z (f : Flags) : f.pack.getLsbD 7 = f.z := by
  rcases f with ⟨z, n, h, c⟩; revert z n h c; unfold Flags.pack; decide
@[simp] theorem Flags.pack_n (f : Flags) : f.pack.getLsbD 6 = f.n := by
  rcases f with ⟨z, n, h, c⟩; revert z n h c; unfold Flags.pack; decide
@[simp] theorem Flags.pack_h (f : Flags) : f.pack.getLsbD 5 = f.h := by
  rcases f with ⟨z, n, h, c⟩; revert z n h c; unfold Flags.pack; decide
@[simp] theorem Flags.pack_c (f : Flags) : f.pack.getLsbD 4 = f.c := by
  rcases f with ⟨z, n, h, c⟩; revert z n h c; unfold Flags.pack; decide

/-- F is never stored with a low nibble (10_state.md R33). -/
theorem Flags.pack_low (f : Flags) : f.pack &&& 0x0F = 0 := by
  rcases f with ⟨z, n, h, c⟩; revert z n h c; unfold Flags.pack; decide

theorem storedF_low (v : Byte) : storedF v &&& 0x0F = 0 := by
  revert v; unfold storedF; decide

/-- A byte of F that `pack` made, as the statements write it. -/
theorem FlagsAre.of_pack {f : Flags} {z n h c : Prop} (hz : f.z = true ↔ z) (hn : f.n = true ↔ n) (hh : f.h = true ↔ h)
    (hc : f.c = true ↔ c) : FlagsAre f.pack z n h c :=
  ⟨by rw [Flags.pack_z, hz], by rw [Flags.pack_n, hn], by rw [Flags.pack_h, hh], by rw [Flags.pack_c, hc],
    Flags.pack_low f⟩

/-- A condition, as the statements write it. -/
theorem State.met_eq (s : State) (cc : Cond) : s.met cc = condHolds cc s.flags := by
  unfold State.met condHolds State.zf State.cf State.flags Flags.ofByte
  cases cc <;> dsimp only
  all_goals (generalize s.regs.f.getLsbD _ = x; cases x <;> rfl)

/-! ## Outcomes of stores and pushes -/

/-- A body that makes one store and then writes registers has the outcome `storeOutcome`. -/
theorem store_outcome (s : State) (a : Word) (v : Byte) (len cyc : Nat) (r : State → Regs)
    (hr : ∀ m o, r { s with pc := s.pc + BitVec.ofNat 16 len, mem := m, overlay := o } = r s) :
    conclude s.pc cyc ((State.write { s with pc := s.pc + BitVec.ofNat 16 len } a v).andThen
      fun t => .done { t with regs := r t }) = storeOutcome s a v (BitVec.ofNat 16 len) cyc (r s) := by
  rw [show ({ s with pc := s.pc + BitVec.ofNat 16 len } : State) =
    { s with regs := s.regs, sp := s.sp, pc := s.pc + BitVec.ofNat 16 len } from rfl, State.write_move]
  unfold storeOutcome
  cases h : s.write a v with
  | done t =>
    obtain ⟨m, o, rfl, -⟩ := State.write_eq h
    simp [conclude, hr]
  | raise k t =>
    obtain ⟨rfl, -⟩ := State.write_raise h
    rfl

/-- A body that is one store. -/
theorem store_outcome' (s : State) (a : Word) (v : Byte) (len cyc : Nat) :
    conclude s.pc cyc (State.write { s with pc := s.pc + BitVec.ofNat 16 len } a v) =
      storeOutcome s a v (BitVec.ofNat 16 len) cyc s.regs := by
  rw [← store_outcome s a v len cyc (·.regs) (fun _ _ => rfl)]
  cases State.write { s with pc := s.pc + BitVec.ofNat 16 len } a v <;> rfl

/-- A read-modify-write of the byte at HL. -/
theorem modify_outcome (s : State) (f : Byte → Flags → Byte × Flags) (len cyc : Nat) :
    conclude s.pc cyc (modify .mem f { s with pc := s.pc + BitVec.ofNat 16 len }) =
      storeOutcome s s.regs.hl (f (s.read s.regs.hl) s.flags).1 (BitVec.ofNat 16 len) cyc
        { s.regs with f := (f (s.read s.regs.hl) s.flags).2.pack } :=
  store_outcome s _ _ _ _ (fun t => { t.regs with f := (f (s.read s.regs.hl) s.flags).2.pack }) (fun _ _ => rfl)

/-- A write does not depend on PC. -/
theorem State.write_pc (s : State) (a : Word) (v : Byte) (q : Word) :
    State.write { s with pc := q } a v = match s.write a v with
      | .done t => .done { t with pc := q }
      | .raise k t => .raise k { t with pc := q } := by
  rw [show ({ s with pc := q } : State) = { s with regs := s.regs, sp := s.sp, pc := q } from rfl, State.write_move]
  cases h : s.write a v with
  | done t => obtain ⟨m, o, rfl, -⟩ := State.write_eq h; rfl
  | raise k t => obtain ⟨rfl, -⟩ := State.write_raise h; rfl

/-- A body that pushes and then writes PC has the outcome `pushOutcome`. -/
theorem push_outcome (s : State) (v : Word) (len cyc : Nat) (f : State → Effect) (target : Word)
    (hf : ∀ u, f u = .done { u with pc := target }) :
    conclude s.pc cyc ((State.push16 { s with pc := s.pc + BitVec.ofNat 16 len } v).andThen f) =
      pushOutcome s v (BitVec.ofNat 16 len) target cyc := by
  unfold State.push16 pushOutcome
  dsimp only
  rw [show State.write { s with sp := s.sp - 1, pc := s.pc + BitVec.ofNat 16 len } (s.sp - 1) (hiByte v) = _ from
    State.write_pc { s with sp := s.sp - 1 } (s.sp - 1) (hiByte v) (s.pc + BitVec.ofNat 16 len)]
  cases h : State.write { s with sp := s.sp - 1 } (s.sp - 1) (hiByte v) with
  | raise k t => rfl
  | done t =>
    simp only [Effect.done_andThen]
    have e : t.sp = s.sp - 1 := (State.write_keeps h).2.1
    have h2 : ({ t with sp := t.sp - 1, pc := s.pc + BitVec.ofNat 16 len } : State) =
        { { t with sp := s.sp - 2 } with pc := s.pc + BitVec.ofNat 16 len } := by
      rw [e, BitVec.sub_sub]; rfl
    have e2 : t.sp - 1 = s.sp - 2 := by rw [e, BitVec.sub_sub]; rfl
    rw [h2, State.write_pc, e2]
    cases h : State.write { t with sp := s.sp - 2 } (s.sp - 2) (loByte v) with
    | raise k t => rfl
    | done t => simp [hf]

/-- A body that is a push. -/
theorem push_outcome' (s : State) (v : Word) (len cyc : Nat) :
    conclude s.pc cyc (State.push16 { s with pc := s.pc + BitVec.ofNat 16 len } v) =
      pushOutcome s v (BitVec.ofNat 16 len) (s.pc + BitVec.ofNat 16 len) cyc := by
  rw [← push_outcome s v len cyc (fun u => .done { u with pc := s.pc + BitVec.ofNat 16 len }) _ (fun _ => rfl)]
  cases h : State.push16 { s with pc := s.pc + BitVec.ofNat 16 len } v with
  | raise k t => rfl
  | done t =>
    obtain ⟨u, h1, h2⟩ := State.push16_done h
    have e1 := (State.write_keeps h1).2.2.1
    have e2 := (State.write_keeps h2).2.2.1
    dsimp only at e1 e2
    simp only [Effect.done_andThen]
    rw [← e1, ← e2]

/-- CALL and RST. -/
theorem call_outcome (s : State) (a : Word) (len cyc : Nat) : instr len cyc (call a) s =
    pushOutcome s (s.pc + BitVec.ofNat 16 len) (BitVec.ofNat 16 len) a cyc :=
  push_outcome s _ _ _ _ _ (fun _ => rfl)

theorem storeOutcome_eq_next {s t : State} {a : Word} {v : Byte} {len : Word} {n : Nat} {r : Regs}
    (h : storeOutcome s a v len n r = .next t) :
    ∃ u, s.write a v = .done u ∧ t = { u with regs := r, pc := s.pc + len, cycles := n } := by
  unfold storeOutcome at h
  split at h
  · next u e => cases h; exact ⟨u, e, rfl⟩
  · cases h

theorem pushOutcome_eq_next {s t : State} {v len q : Word} {n : Nat} (h : pushOutcome s v len q n = .next t) :
    ∃ u w, State.write { s with sp := s.sp - 1 } (s.sp - 1) (hiByte v) = .done u ∧
      State.write { u with sp := s.sp - 2 } (s.sp - 2) (loByte v) = .done w ∧ t = { w with pc := q, cycles := n } := by
  unfold pushOutcome at h
  split at h
  · cases h
  · next u e =>
    split at h
    · cases h
    · next w e2 => cases h; exact ⟨u, w, e, e2, rfl⟩

/-! ## The shape of every instruction -/

/-- The cycles of an instruction's row, with the taken count where its condition holds. -/
def rowCycles (i : Instr) (s : State) : Nat :=
  match i.cond with
  | some cc => if s.met cc then i.descriptor.cyclesTaken.getD 0 else i.descriptor.cycles
  | none => i.descriptor.cycles

/-- What the instruction `i` does in the state `s`. -/
inductive Shape (i : Instr) (s : State) : Prop where
  | registers (r : Regs) (p q : Word) (b : Bool) (d : Fin 3)
      (eq : exec i s = .next { s with regs := r, sp := p, pc := q, ime := b, eiDelay := d, cycles := rowCycles i s })
      (stores : i.stores s = []) (low : s.regs.f &&& 0x0F = 0 → r.f &&& 0x0F = 0)
      (pc : i.transfers = false → q = s.pc + BitVec.ofNat 16 i.length) (sp : i.writesSp = false → p = s.sp)
      (control : i ≠ .ei → i ≠ .di → i ≠ .reti → b = s.ime ∧ d = s.eiDelay) (ei : s.eiOk = true → b = true → d = 0)
  | store (a : Word) (v : Byte) (r : Regs)
      (eq : exec i s = storeOutcome s a v (BitVec.ofNat 16 i.length) (rowCycles i s) r) (stores : i.stores s = [a])
      (low : s.regs.f &&& 0x0F = 0 → r.f &&& 0x0F = 0)
  | push (v q : Word) (eq : exec i s = pushOutcome s v (BitVec.ofNat 16 i.length) q (rowCycles i s))
      (stores : i.stores s = s.pushed) (pc : i.transfers = false → q = s.pc + BitVec.ofNat 16 i.length)
      (sp : i.writesSp = true)
  | store16 (a : Word) (eq : i = .ldAtA16Sp a) (stores : i.stores s = [a, a + 1])
  | halt (eq : i = .halt)
  | stop (n : Byte) (eq : i = .stop n)

theorem eiDelay_of_eiOk {s : State} (h : s.eiOk = true) (hb : s.ime = true) : s.eiDelay = 0 := by
  simpa [State.eiOk, hb] using h

theorem control_same {P Q R : Prop} (b : Bool) (d : Fin 3) : P → Q → R → b = b ∧ d = d := fun _ _ _ => ⟨rfl, rfl⟩

theorem shape_nop (s : State) : Shape .nop s :=
  .registers _ _ _ _ _ rfl rfl id (fun _ => rfl) (fun _ => rfl) (control_same _ _) eiDelay_of_eiOk
theorem shape_ldBcN16 (s : State) (nn : Word) : Shape (.ldBcN16 nn) s :=
  .registers _ _ _ _ _ rfl rfl id (fun _ => rfl) (fun _ => rfl) (control_same _ _) eiDelay_of_eiOk
theorem shape_ldAtBcA (s : State) : Shape .ldAtBcA s :=
  .store _ _ _ (store_outcome' s _ _ 1 8) rfl id
theorem shape_incBc (s : State) : Shape .incBc s :=
  .registers _ _ _ _ _ rfl rfl id (fun _ => rfl) (fun _ => rfl) (control_same _ _) eiDelay_of_eiOk
theorem shape_incB (s : State) : Shape .incB s :=
  .registers _ _ _ _ _ rfl rfl (fun _ => Flags.pack_low _) (fun _ => rfl) (fun _ => rfl) (control_same _ _) eiDelay_of_eiOk
theorem shape_decB (s : State) : Shape .decB s :=
  .registers _ _ _ _ _ rfl rfl (fun _ => Flags.pack_low _) (fun _ => rfl) (fun _ => rfl) (control_same _ _) eiDelay_of_eiOk
theorem shape_ldBN8 (s : State) (n : Byte) : Shape (.ldBN8 n) s :=
  .registers _ _ _ _ _ rfl rfl id (fun _ => rfl) (fun _ => rfl) (control_same _ _) eiDelay_of_eiOk
theorem shape_rlca (s : State) : Shape .rlca s :=
  .registers _ _ _ _ _ rfl rfl (fun _ => Flags.pack_low _) (fun _ => rfl) (fun _ => rfl) (control_same _ _) eiDelay_of_eiOk
theorem shape_ldAtA16Sp (s : State) (a : Word) : Shape (.ldAtA16Sp a) s := .store16 _ rfl rfl
theorem shape_addHlBc (s : State) : Shape .addHlBc s :=
  .registers _ _ _ _ _ rfl rfl (fun _ => Flags.pack_low _) (fun _ => rfl) (fun _ => rfl) (control_same _ _) eiDelay_of_eiOk
theorem shape_ldAAtBc (s : State) : Shape .ldAAtBc s :=
  .registers _ _ _ _ _ rfl rfl id (fun _ => rfl) (fun _ => rfl) (control_same _ _) eiDelay_of_eiOk
theorem shape_decBc (s : State) : Shape .decBc s :=
  .registers _ _ _ _ _ rfl rfl id (fun _ => rfl) (fun _ => rfl) (control_same _ _) eiDelay_of_eiOk
theorem shape_incC (s : State) : Shape .incC s :=
  .registers _ _ _ _ _ rfl rfl (fun _ => Flags.pack_low _) (fun _ => rfl) (fun _ => rfl) (control_same _ _) eiDelay_of_eiOk
theorem shape_decC (s : State) : Shape .decC s :=
  .registers _ _ _ _ _ rfl rfl (fun _ => Flags.pack_low _) (fun _ => rfl) (fun _ => rfl) (control_same _ _) eiDelay_of_eiOk
theorem shape_ldCN8 (s : State) (n : Byte) : Shape (.ldCN8 n) s :=
  .registers _ _ _ _ _ rfl rfl id (fun _ => rfl) (fun _ => rfl) (control_same _ _) eiDelay_of_eiOk
theorem shape_rrca (s : State) : Shape .rrca s :=
  .registers _ _ _ _ _ rfl rfl (fun _ => Flags.pack_low _) (fun _ => rfl) (fun _ => rfl) (control_same _ _) eiDelay_of_eiOk
theorem shape_stop (s : State) (n : Byte) : Shape (.stop n) s := .stop _ rfl
theorem shape_ldDeN16 (s : State) (nn : Word) : Shape (.ldDeN16 nn) s :=
  .registers _ _ _ _ _ rfl rfl id (fun _ => rfl) (fun _ => rfl) (control_same _ _) eiDelay_of_eiOk
theorem shape_ldAtDeA (s : State) : Shape .ldAtDeA s :=
  .store _ _ _ (store_outcome' s _ _ 1 8) rfl id
theorem shape_incDe (s : State) : Shape .incDe s :=
  .registers _ _ _ _ _ rfl rfl id (fun _ => rfl) (fun _ => rfl) (control_same _ _) eiDelay_of_eiOk
theorem shape_incD (s : State) : Shape .incD s :=
  .registers _ _ _ _ _ rfl rfl (fun _ => Flags.pack_low _) (fun _ => rfl) (fun _ => rfl) (control_same _ _) eiDelay_of_eiOk
theorem shape_decD (s : State) : Shape .decD s :=
  .registers _ _ _ _ _ rfl rfl (fun _ => Flags.pack_low _) (fun _ => rfl) (fun _ => rfl) (control_same _ _) eiDelay_of_eiOk
theorem shape_ldDN8 (s : State) (n : Byte) : Shape (.ldDN8 n) s :=
  .registers _ _ _ _ _ rfl rfl id (fun _ => rfl) (fun _ => rfl) (control_same _ _) eiDelay_of_eiOk
theorem shape_rla (s : State) : Shape .rla s :=
  .registers _ _ _ _ _ rfl rfl (fun _ => Flags.pack_low _) (fun _ => rfl) (fun _ => rfl) (control_same _ _) eiDelay_of_eiOk
theorem shape_jrE8 (s : State) (e : Byte) : Shape (.jrE8 e) s :=
  .registers _ _ _ _ _ rfl rfl id nofun (fun _ => rfl) (control_same _ _) eiDelay_of_eiOk
theorem shape_addHlDe (s : State) : Shape .addHlDe s :=
  .registers _ _ _ _ _ rfl rfl (fun _ => Flags.pack_low _) (fun _ => rfl) (fun _ => rfl) (control_same _ _) eiDelay_of_eiOk
theorem shape_ldAAtDe (s : State) : Shape .ldAAtDe s :=
  .registers _ _ _ _ _ rfl rfl id (fun _ => rfl) (fun _ => rfl) (control_same _ _) eiDelay_of_eiOk
theorem shape_decDe (s : State) : Shape .decDe s :=
  .registers _ _ _ _ _ rfl rfl id (fun _ => rfl) (fun _ => rfl) (control_same _ _) eiDelay_of_eiOk
theorem shape_incE (s : State) : Shape .incE s :=
  .registers _ _ _ _ _ rfl rfl (fun _ => Flags.pack_low _) (fun _ => rfl) (fun _ => rfl) (control_same _ _) eiDelay_of_eiOk
theorem shape_decE (s : State) : Shape .decE s :=
  .registers _ _ _ _ _ rfl rfl (fun _ => Flags.pack_low _) (fun _ => rfl) (fun _ => rfl) (control_same _ _) eiDelay_of_eiOk
theorem shape_ldEN8 (s : State) (n : Byte) : Shape (.ldEN8 n) s :=
  .registers _ _ _ _ _ rfl rfl id (fun _ => rfl) (fun _ => rfl) (control_same _ _) eiDelay_of_eiOk
theorem shape_rra (s : State) : Shape .rra s :=
  .registers _ _ _ _ _ rfl rfl (fun _ => Flags.pack_low _) (fun _ => rfl) (fun _ => rfl) (control_same _ _) eiDelay_of_eiOk
theorem shape_jrNzE8 (s : State) (e : Byte) : Shape (.jrNzE8 e) s := by
  have ec : rowCycles (.jrNzE8 e) s = if condHolds .nz s.flags then 12 else 8 := by rw [← State.met_eq]; rfl
  by_cases hc : condHolds .nz s.flags = true
  · rw [if_pos hc] at ec
    have eq : exec (.jrNzE8 e) s = instr 2 12 (jumpRel e) s := if_pos hc
    exact .registers _ _ _ _ _ (by rw [eq, ec]; rfl) rfl id nofun (fun _ => rfl) (control_same _ _) eiDelay_of_eiOk
  · rw [if_neg hc] at ec
    have eq : exec (.jrNzE8 e) s = instr 2 8 .done s := if_neg hc
    exact .registers _ _ _ _ _ (by rw [eq, ec]; rfl) rfl id nofun (fun _ => rfl)
      (control_same _ _) eiDelay_of_eiOk
theorem shape_ldHlN16 (s : State) (nn : Word) : Shape (.ldHlN16 nn) s :=
  .registers _ _ _ _ _ rfl rfl id (fun _ => rfl) (fun _ => rfl) (control_same _ _) eiDelay_of_eiOk
theorem shape_ldAtHliA (s : State) : Shape .ldAtHliA s :=
  .store _ _ _ (store_outcome s _ _ 1 8 (fun t => t.regs.setHl (s.regs.hl + 1)) (fun _ _ => rfl)) rfl id
theorem shape_incHl (s : State) : Shape .incHl s :=
  .registers _ _ _ _ _ rfl rfl id (fun _ => rfl) (fun _ => rfl) (control_same _ _) eiDelay_of_eiOk
theorem shape_incH (s : State) : Shape .incH s :=
  .registers _ _ _ _ _ rfl rfl (fun _ => Flags.pack_low _) (fun _ => rfl) (fun _ => rfl) (control_same _ _) eiDelay_of_eiOk
theorem shape_decH (s : State) : Shape .decH s :=
  .registers _ _ _ _ _ rfl rfl (fun _ => Flags.pack_low _) (fun _ => rfl) (fun _ => rfl) (control_same _ _) eiDelay_of_eiOk
theorem shape_ldHN8 (s : State) (n : Byte) : Shape (.ldHN8 n) s :=
  .registers _ _ _ _ _ rfl rfl id (fun _ => rfl) (fun _ => rfl) (control_same _ _) eiDelay_of_eiOk
theorem shape_daa (s : State) : Shape .daa s :=
  .registers _ _ _ _ _ rfl rfl (fun _ => Flags.pack_low _) (fun _ => rfl) (fun _ => rfl) (control_same _ _) eiDelay_of_eiOk
theorem shape_jrZE8 (s : State) (e : Byte) : Shape (.jrZE8 e) s := by
  have ec : rowCycles (.jrZE8 e) s = if condHolds .z s.flags then 12 else 8 := by rw [← State.met_eq]; rfl
  by_cases hc : condHolds .z s.flags = true
  · rw [if_pos hc] at ec
    have eq : exec (.jrZE8 e) s = instr 2 12 (jumpRel e) s := if_pos hc
    exact .registers _ _ _ _ _ (by rw [eq, ec]; rfl) rfl id nofun (fun _ => rfl) (control_same _ _) eiDelay_of_eiOk
  · rw [if_neg hc] at ec
    have eq : exec (.jrZE8 e) s = instr 2 8 .done s := if_neg hc
    exact .registers _ _ _ _ _ (by rw [eq, ec]; rfl) rfl id nofun (fun _ => rfl)
      (control_same _ _) eiDelay_of_eiOk
theorem shape_addHlHl (s : State) : Shape .addHlHl s :=
  .registers _ _ _ _ _ rfl rfl (fun _ => Flags.pack_low _) (fun _ => rfl) (fun _ => rfl) (control_same _ _) eiDelay_of_eiOk
theorem shape_ldAAtHli (s : State) : Shape .ldAAtHli s :=
  .registers _ _ _ _ _ rfl rfl id (fun _ => rfl) (fun _ => rfl) (control_same _ _) eiDelay_of_eiOk
theorem shape_decHl (s : State) : Shape .decHl s :=
  .registers _ _ _ _ _ rfl rfl id (fun _ => rfl) (fun _ => rfl) (control_same _ _) eiDelay_of_eiOk
theorem shape_incL (s : State) : Shape .incL s :=
  .registers _ _ _ _ _ rfl rfl (fun _ => Flags.pack_low _) (fun _ => rfl) (fun _ => rfl) (control_same _ _) eiDelay_of_eiOk
theorem shape_decL (s : State) : Shape .decL s :=
  .registers _ _ _ _ _ rfl rfl (fun _ => Flags.pack_low _) (fun _ => rfl) (fun _ => rfl) (control_same _ _) eiDelay_of_eiOk
theorem shape_ldLN8 (s : State) (n : Byte) : Shape (.ldLN8 n) s :=
  .registers _ _ _ _ _ rfl rfl id (fun _ => rfl) (fun _ => rfl) (control_same _ _) eiDelay_of_eiOk
theorem shape_cpl (s : State) : Shape .cpl s :=
  .registers _ _ _ _ _ rfl rfl (fun _ => Flags.pack_low _) (fun _ => rfl) (fun _ => rfl) (control_same _ _) eiDelay_of_eiOk
theorem shape_jrNcE8 (s : State) (e : Byte) : Shape (.jrNcE8 e) s := by
  have ec : rowCycles (.jrNcE8 e) s = if condHolds .nc s.flags then 12 else 8 := by rw [← State.met_eq]; rfl
  by_cases hc : condHolds .nc s.flags = true
  · rw [if_pos hc] at ec
    have eq : exec (.jrNcE8 e) s = instr 2 12 (jumpRel e) s := if_pos hc
    exact .registers _ _ _ _ _ (by rw [eq, ec]; rfl) rfl id nofun (fun _ => rfl) (control_same _ _) eiDelay_of_eiOk
  · rw [if_neg hc] at ec
    have eq : exec (.jrNcE8 e) s = instr 2 8 .done s := if_neg hc
    exact .registers _ _ _ _ _ (by rw [eq, ec]; rfl) rfl id nofun (fun _ => rfl)
      (control_same _ _) eiDelay_of_eiOk
theorem shape_ldSpN16 (s : State) (nn : Word) : Shape (.ldSpN16 nn) s :=
  .registers _ _ _ _ _ rfl rfl id (fun _ => rfl) nofun (control_same _ _) eiDelay_of_eiOk
theorem shape_ldAtHldA (s : State) : Shape .ldAtHldA s :=
  .store _ _ _ (store_outcome s _ _ 1 8 (fun t => t.regs.setHl (s.regs.hl + (-1))) (fun _ _ => rfl)) rfl id
theorem shape_incSp (s : State) : Shape .incSp s :=
  .registers _ _ _ _ _ rfl rfl id (fun _ => rfl) nofun (control_same _ _) eiDelay_of_eiOk
theorem shape_incAtHl (s : State) : Shape .incAtHl s :=
  .store _ _ _ (modify_outcome s inc8 1 12) rfl (fun _ => Flags.pack_low _)
theorem shape_decAtHl (s : State) : Shape .decAtHl s :=
  .store _ _ _ (modify_outcome s dec8 1 12) rfl (fun _ => Flags.pack_low _)
theorem shape_ldAtHlN8 (s : State) (n : Byte) : Shape (.ldAtHlN8 n) s :=
  .store _ _ _ (store_outcome' s _ _ 2 12) rfl id
theorem shape_scf (s : State) : Shape .scf s :=
  .registers _ _ _ _ _ rfl rfl (fun _ => Flags.pack_low _) (fun _ => rfl) (fun _ => rfl) (control_same _ _) eiDelay_of_eiOk
theorem shape_jrCE8 (s : State) (e : Byte) : Shape (.jrCE8 e) s := by
  have ec : rowCycles (.jrCE8 e) s = if condHolds .c s.flags then 12 else 8 := by rw [← State.met_eq]; rfl
  by_cases hc : condHolds .c s.flags = true
  · rw [if_pos hc] at ec
    have eq : exec (.jrCE8 e) s = instr 2 12 (jumpRel e) s := if_pos hc
    exact .registers _ _ _ _ _ (by rw [eq, ec]; rfl) rfl id nofun (fun _ => rfl) (control_same _ _) eiDelay_of_eiOk
  · rw [if_neg hc] at ec
    have eq : exec (.jrCE8 e) s = instr 2 8 .done s := if_neg hc
    exact .registers _ _ _ _ _ (by rw [eq, ec]; rfl) rfl id nofun (fun _ => rfl)
      (control_same _ _) eiDelay_of_eiOk
theorem shape_addHlSp (s : State) : Shape .addHlSp s :=
  .registers _ _ _ _ _ rfl rfl (fun _ => Flags.pack_low _) (fun _ => rfl) (fun _ => rfl) (control_same _ _) eiDelay_of_eiOk
theorem shape_ldAAtHld (s : State) : Shape .ldAAtHld s :=
  .registers _ _ _ _ _ rfl rfl id (fun _ => rfl) (fun _ => rfl) (control_same _ _) eiDelay_of_eiOk
theorem shape_decSp (s : State) : Shape .decSp s :=
  .registers _ _ _ _ _ rfl rfl id (fun _ => rfl) nofun (control_same _ _) eiDelay_of_eiOk
theorem shape_incA (s : State) : Shape .incA s :=
  .registers _ _ _ _ _ rfl rfl (fun _ => Flags.pack_low _) (fun _ => rfl) (fun _ => rfl) (control_same _ _) eiDelay_of_eiOk
theorem shape_decA (s : State) : Shape .decA s :=
  .registers _ _ _ _ _ rfl rfl (fun _ => Flags.pack_low _) (fun _ => rfl) (fun _ => rfl) (control_same _ _) eiDelay_of_eiOk
theorem shape_ldAN8 (s : State) (n : Byte) : Shape (.ldAN8 n) s :=
  .registers _ _ _ _ _ rfl rfl id (fun _ => rfl) (fun _ => rfl) (control_same _ _) eiDelay_of_eiOk
theorem shape_ccf (s : State) : Shape .ccf s :=
  .registers _ _ _ _ _ rfl rfl (fun _ => Flags.pack_low _) (fun _ => rfl) (fun _ => rfl) (control_same _ _) eiDelay_of_eiOk
theorem shape_ldBB (s : State) : Shape .ldBB s :=
  .registers _ _ _ _ _ rfl rfl id (fun _ => rfl) (fun _ => rfl) (control_same _ _) eiDelay_of_eiOk
theorem shape_ldBC (s : State) : Shape .ldBC s :=
  .registers _ _ _ _ _ rfl rfl id (fun _ => rfl) (fun _ => rfl) (control_same _ _) eiDelay_of_eiOk
theorem shape_ldBD (s : State) : Shape .ldBD s :=
  .registers _ _ _ _ _ rfl rfl id (fun _ => rfl) (fun _ => rfl) (control_same _ _) eiDelay_of_eiOk
theorem shape_ldBE (s : State) : Shape .ldBE s :=
  .registers _ _ _ _ _ rfl rfl id (fun _ => rfl) (fun _ => rfl) (control_same _ _) eiDelay_of_eiOk
theorem shape_ldBH (s : State) : Shape .ldBH s :=
  .registers _ _ _ _ _ rfl rfl id (fun _ => rfl) (fun _ => rfl) (control_same _ _) eiDelay_of_eiOk
theorem shape_ldBL (s : State) : Shape .ldBL s :=
  .registers _ _ _ _ _ rfl rfl id (fun _ => rfl) (fun _ => rfl) (control_same _ _) eiDelay_of_eiOk
theorem shape_ldBAtHl (s : State) : Shape .ldBAtHl s :=
  .registers _ _ _ _ _ rfl rfl id (fun _ => rfl) (fun _ => rfl) (control_same _ _) eiDelay_of_eiOk
theorem shape_ldBA (s : State) : Shape .ldBA s :=
  .registers _ _ _ _ _ rfl rfl id (fun _ => rfl) (fun _ => rfl) (control_same _ _) eiDelay_of_eiOk
theorem shape_ldCB (s : State) : Shape .ldCB s :=
  .registers _ _ _ _ _ rfl rfl id (fun _ => rfl) (fun _ => rfl) (control_same _ _) eiDelay_of_eiOk
theorem shape_ldCC (s : State) : Shape .ldCC s :=
  .registers _ _ _ _ _ rfl rfl id (fun _ => rfl) (fun _ => rfl) (control_same _ _) eiDelay_of_eiOk
theorem shape_ldCD (s : State) : Shape .ldCD s :=
  .registers _ _ _ _ _ rfl rfl id (fun _ => rfl) (fun _ => rfl) (control_same _ _) eiDelay_of_eiOk
theorem shape_ldCE (s : State) : Shape .ldCE s :=
  .registers _ _ _ _ _ rfl rfl id (fun _ => rfl) (fun _ => rfl) (control_same _ _) eiDelay_of_eiOk
theorem shape_ldCH (s : State) : Shape .ldCH s :=
  .registers _ _ _ _ _ rfl rfl id (fun _ => rfl) (fun _ => rfl) (control_same _ _) eiDelay_of_eiOk
theorem shape_ldCL (s : State) : Shape .ldCL s :=
  .registers _ _ _ _ _ rfl rfl id (fun _ => rfl) (fun _ => rfl) (control_same _ _) eiDelay_of_eiOk
theorem shape_ldCAtHl (s : State) : Shape .ldCAtHl s :=
  .registers _ _ _ _ _ rfl rfl id (fun _ => rfl) (fun _ => rfl) (control_same _ _) eiDelay_of_eiOk
theorem shape_ldCA (s : State) : Shape .ldCA s :=
  .registers _ _ _ _ _ rfl rfl id (fun _ => rfl) (fun _ => rfl) (control_same _ _) eiDelay_of_eiOk
theorem shape_ldDB (s : State) : Shape .ldDB s :=
  .registers _ _ _ _ _ rfl rfl id (fun _ => rfl) (fun _ => rfl) (control_same _ _) eiDelay_of_eiOk
theorem shape_ldDC (s : State) : Shape .ldDC s :=
  .registers _ _ _ _ _ rfl rfl id (fun _ => rfl) (fun _ => rfl) (control_same _ _) eiDelay_of_eiOk
theorem shape_ldDD (s : State) : Shape .ldDD s :=
  .registers _ _ _ _ _ rfl rfl id (fun _ => rfl) (fun _ => rfl) (control_same _ _) eiDelay_of_eiOk
theorem shape_ldDE (s : State) : Shape .ldDE s :=
  .registers _ _ _ _ _ rfl rfl id (fun _ => rfl) (fun _ => rfl) (control_same _ _) eiDelay_of_eiOk
theorem shape_ldDH (s : State) : Shape .ldDH s :=
  .registers _ _ _ _ _ rfl rfl id (fun _ => rfl) (fun _ => rfl) (control_same _ _) eiDelay_of_eiOk
theorem shape_ldDL (s : State) : Shape .ldDL s :=
  .registers _ _ _ _ _ rfl rfl id (fun _ => rfl) (fun _ => rfl) (control_same _ _) eiDelay_of_eiOk
theorem shape_ldDAtHl (s : State) : Shape .ldDAtHl s :=
  .registers _ _ _ _ _ rfl rfl id (fun _ => rfl) (fun _ => rfl) (control_same _ _) eiDelay_of_eiOk
theorem shape_ldDA (s : State) : Shape .ldDA s :=
  .registers _ _ _ _ _ rfl rfl id (fun _ => rfl) (fun _ => rfl) (control_same _ _) eiDelay_of_eiOk
theorem shape_ldEB (s : State) : Shape .ldEB s :=
  .registers _ _ _ _ _ rfl rfl id (fun _ => rfl) (fun _ => rfl) (control_same _ _) eiDelay_of_eiOk
theorem shape_ldEC (s : State) : Shape .ldEC s :=
  .registers _ _ _ _ _ rfl rfl id (fun _ => rfl) (fun _ => rfl) (control_same _ _) eiDelay_of_eiOk
theorem shape_ldED (s : State) : Shape .ldED s :=
  .registers _ _ _ _ _ rfl rfl id (fun _ => rfl) (fun _ => rfl) (control_same _ _) eiDelay_of_eiOk
theorem shape_ldEE (s : State) : Shape .ldEE s :=
  .registers _ _ _ _ _ rfl rfl id (fun _ => rfl) (fun _ => rfl) (control_same _ _) eiDelay_of_eiOk
theorem shape_ldEH (s : State) : Shape .ldEH s :=
  .registers _ _ _ _ _ rfl rfl id (fun _ => rfl) (fun _ => rfl) (control_same _ _) eiDelay_of_eiOk
theorem shape_ldEL (s : State) : Shape .ldEL s :=
  .registers _ _ _ _ _ rfl rfl id (fun _ => rfl) (fun _ => rfl) (control_same _ _) eiDelay_of_eiOk
theorem shape_ldEAtHl (s : State) : Shape .ldEAtHl s :=
  .registers _ _ _ _ _ rfl rfl id (fun _ => rfl) (fun _ => rfl) (control_same _ _) eiDelay_of_eiOk
theorem shape_ldEA (s : State) : Shape .ldEA s :=
  .registers _ _ _ _ _ rfl rfl id (fun _ => rfl) (fun _ => rfl) (control_same _ _) eiDelay_of_eiOk
theorem shape_ldHB (s : State) : Shape .ldHB s :=
  .registers _ _ _ _ _ rfl rfl id (fun _ => rfl) (fun _ => rfl) (control_same _ _) eiDelay_of_eiOk
theorem shape_ldHC (s : State) : Shape .ldHC s :=
  .registers _ _ _ _ _ rfl rfl id (fun _ => rfl) (fun _ => rfl) (control_same _ _) eiDelay_of_eiOk
theorem shape_ldHD (s : State) : Shape .ldHD s :=
  .registers _ _ _ _ _ rfl rfl id (fun _ => rfl) (fun _ => rfl) (control_same _ _) eiDelay_of_eiOk
theorem shape_ldHE (s : State) : Shape .ldHE s :=
  .registers _ _ _ _ _ rfl rfl id (fun _ => rfl) (fun _ => rfl) (control_same _ _) eiDelay_of_eiOk
theorem shape_ldHH (s : State) : Shape .ldHH s :=
  .registers _ _ _ _ _ rfl rfl id (fun _ => rfl) (fun _ => rfl) (control_same _ _) eiDelay_of_eiOk
theorem shape_ldHL (s : State) : Shape .ldHL s :=
  .registers _ _ _ _ _ rfl rfl id (fun _ => rfl) (fun _ => rfl) (control_same _ _) eiDelay_of_eiOk
theorem shape_ldHAtHl (s : State) : Shape .ldHAtHl s :=
  .registers _ _ _ _ _ rfl rfl id (fun _ => rfl) (fun _ => rfl) (control_same _ _) eiDelay_of_eiOk
theorem shape_ldHA (s : State) : Shape .ldHA s :=
  .registers _ _ _ _ _ rfl rfl id (fun _ => rfl) (fun _ => rfl) (control_same _ _) eiDelay_of_eiOk
theorem shape_ldLB (s : State) : Shape .ldLB s :=
  .registers _ _ _ _ _ rfl rfl id (fun _ => rfl) (fun _ => rfl) (control_same _ _) eiDelay_of_eiOk
theorem shape_ldLC (s : State) : Shape .ldLC s :=
  .registers _ _ _ _ _ rfl rfl id (fun _ => rfl) (fun _ => rfl) (control_same _ _) eiDelay_of_eiOk
theorem shape_ldLD (s : State) : Shape .ldLD s :=
  .registers _ _ _ _ _ rfl rfl id (fun _ => rfl) (fun _ => rfl) (control_same _ _) eiDelay_of_eiOk
theorem shape_ldLE (s : State) : Shape .ldLE s :=
  .registers _ _ _ _ _ rfl rfl id (fun _ => rfl) (fun _ => rfl) (control_same _ _) eiDelay_of_eiOk
theorem shape_ldLH (s : State) : Shape .ldLH s :=
  .registers _ _ _ _ _ rfl rfl id (fun _ => rfl) (fun _ => rfl) (control_same _ _) eiDelay_of_eiOk
theorem shape_ldLL (s : State) : Shape .ldLL s :=
  .registers _ _ _ _ _ rfl rfl id (fun _ => rfl) (fun _ => rfl) (control_same _ _) eiDelay_of_eiOk
theorem shape_ldLAtHl (s : State) : Shape .ldLAtHl s :=
  .registers _ _ _ _ _ rfl rfl id (fun _ => rfl) (fun _ => rfl) (control_same _ _) eiDelay_of_eiOk
theorem shape_ldLA (s : State) : Shape .ldLA s :=
  .registers _ _ _ _ _ rfl rfl id (fun _ => rfl) (fun _ => rfl) (control_same _ _) eiDelay_of_eiOk
theorem shape_ldAtHlB (s : State) : Shape .ldAtHlB s :=
  .store _ _ _ (store_outcome' s _ _ 1 8) rfl id
theorem shape_ldAtHlC (s : State) : Shape .ldAtHlC s :=
  .store _ _ _ (store_outcome' s _ _ 1 8) rfl id
theorem shape_ldAtHlD (s : State) : Shape .ldAtHlD s :=
  .store _ _ _ (store_outcome' s _ _ 1 8) rfl id
theorem shape_ldAtHlE (s : State) : Shape .ldAtHlE s :=
  .store _ _ _ (store_outcome' s _ _ 1 8) rfl id
theorem shape_ldAtHlH (s : State) : Shape .ldAtHlH s :=
  .store _ _ _ (store_outcome' s _ _ 1 8) rfl id
theorem shape_ldAtHlL (s : State) : Shape .ldAtHlL s :=
  .store _ _ _ (store_outcome' s _ _ 1 8) rfl id
theorem shape_halt (s : State) : Shape .halt s := .halt rfl
theorem shape_ldAtHlA (s : State) : Shape .ldAtHlA s :=
  .store _ _ _ (store_outcome' s _ _ 1 8) rfl id
theorem shape_ldAB (s : State) : Shape .ldAB s :=
  .registers _ _ _ _ _ rfl rfl id (fun _ => rfl) (fun _ => rfl) (control_same _ _) eiDelay_of_eiOk
theorem shape_ldAC (s : State) : Shape .ldAC s :=
  .registers _ _ _ _ _ rfl rfl id (fun _ => rfl) (fun _ => rfl) (control_same _ _) eiDelay_of_eiOk
theorem shape_ldAD (s : State) : Shape .ldAD s :=
  .registers _ _ _ _ _ rfl rfl id (fun _ => rfl) (fun _ => rfl) (control_same _ _) eiDelay_of_eiOk
theorem shape_ldAE (s : State) : Shape .ldAE s :=
  .registers _ _ _ _ _ rfl rfl id (fun _ => rfl) (fun _ => rfl) (control_same _ _) eiDelay_of_eiOk
theorem shape_ldAH (s : State) : Shape .ldAH s :=
  .registers _ _ _ _ _ rfl rfl id (fun _ => rfl) (fun _ => rfl) (control_same _ _) eiDelay_of_eiOk
theorem shape_ldAL (s : State) : Shape .ldAL s :=
  .registers _ _ _ _ _ rfl rfl id (fun _ => rfl) (fun _ => rfl) (control_same _ _) eiDelay_of_eiOk
theorem shape_ldAAtHl (s : State) : Shape .ldAAtHl s :=
  .registers _ _ _ _ _ rfl rfl id (fun _ => rfl) (fun _ => rfl) (control_same _ _) eiDelay_of_eiOk
theorem shape_ldAA (s : State) : Shape .ldAA s :=
  .registers _ _ _ _ _ rfl rfl id (fun _ => rfl) (fun _ => rfl) (control_same _ _) eiDelay_of_eiOk
theorem shape_addAB (s : State) : Shape .addAB s :=
  .registers _ _ _ _ _ rfl rfl (fun _ => Flags.pack_low _) (fun _ => rfl) (fun _ => rfl) (control_same _ _) eiDelay_of_eiOk
theorem shape_addAC (s : State) : Shape .addAC s :=
  .registers _ _ _ _ _ rfl rfl (fun _ => Flags.pack_low _) (fun _ => rfl) (fun _ => rfl) (control_same _ _) eiDelay_of_eiOk
theorem shape_addAD (s : State) : Shape .addAD s :=
  .registers _ _ _ _ _ rfl rfl (fun _ => Flags.pack_low _) (fun _ => rfl) (fun _ => rfl) (control_same _ _) eiDelay_of_eiOk
theorem shape_addAE (s : State) : Shape .addAE s :=
  .registers _ _ _ _ _ rfl rfl (fun _ => Flags.pack_low _) (fun _ => rfl) (fun _ => rfl) (control_same _ _) eiDelay_of_eiOk
theorem shape_addAH (s : State) : Shape .addAH s :=
  .registers _ _ _ _ _ rfl rfl (fun _ => Flags.pack_low _) (fun _ => rfl) (fun _ => rfl) (control_same _ _) eiDelay_of_eiOk
theorem shape_addAL (s : State) : Shape .addAL s :=
  .registers _ _ _ _ _ rfl rfl (fun _ => Flags.pack_low _) (fun _ => rfl) (fun _ => rfl) (control_same _ _) eiDelay_of_eiOk
theorem shape_addAAtHl (s : State) : Shape .addAAtHl s :=
  .registers _ _ _ _ _ rfl rfl (fun _ => Flags.pack_low _) (fun _ => rfl) (fun _ => rfl) (control_same _ _) eiDelay_of_eiOk
theorem shape_addAA (s : State) : Shape .addAA s :=
  .registers _ _ _ _ _ rfl rfl (fun _ => Flags.pack_low _) (fun _ => rfl) (fun _ => rfl) (control_same _ _) eiDelay_of_eiOk
theorem shape_adcAB (s : State) : Shape .adcAB s :=
  .registers _ _ _ _ _ rfl rfl (fun _ => Flags.pack_low _) (fun _ => rfl) (fun _ => rfl) (control_same _ _) eiDelay_of_eiOk
theorem shape_adcAC (s : State) : Shape .adcAC s :=
  .registers _ _ _ _ _ rfl rfl (fun _ => Flags.pack_low _) (fun _ => rfl) (fun _ => rfl) (control_same _ _) eiDelay_of_eiOk
theorem shape_adcAD (s : State) : Shape .adcAD s :=
  .registers _ _ _ _ _ rfl rfl (fun _ => Flags.pack_low _) (fun _ => rfl) (fun _ => rfl) (control_same _ _) eiDelay_of_eiOk
theorem shape_adcAE (s : State) : Shape .adcAE s :=
  .registers _ _ _ _ _ rfl rfl (fun _ => Flags.pack_low _) (fun _ => rfl) (fun _ => rfl) (control_same _ _) eiDelay_of_eiOk
theorem shape_adcAH (s : State) : Shape .adcAH s :=
  .registers _ _ _ _ _ rfl rfl (fun _ => Flags.pack_low _) (fun _ => rfl) (fun _ => rfl) (control_same _ _) eiDelay_of_eiOk
theorem shape_adcAL (s : State) : Shape .adcAL s :=
  .registers _ _ _ _ _ rfl rfl (fun _ => Flags.pack_low _) (fun _ => rfl) (fun _ => rfl) (control_same _ _) eiDelay_of_eiOk
theorem shape_adcAAtHl (s : State) : Shape .adcAAtHl s :=
  .registers _ _ _ _ _ rfl rfl (fun _ => Flags.pack_low _) (fun _ => rfl) (fun _ => rfl) (control_same _ _) eiDelay_of_eiOk
theorem shape_adcAA (s : State) : Shape .adcAA s :=
  .registers _ _ _ _ _ rfl rfl (fun _ => Flags.pack_low _) (fun _ => rfl) (fun _ => rfl) (control_same _ _) eiDelay_of_eiOk
theorem shape_subB (s : State) : Shape .subB s :=
  .registers _ _ _ _ _ rfl rfl (fun _ => Flags.pack_low _) (fun _ => rfl) (fun _ => rfl) (control_same _ _) eiDelay_of_eiOk
theorem shape_subC (s : State) : Shape .subC s :=
  .registers _ _ _ _ _ rfl rfl (fun _ => Flags.pack_low _) (fun _ => rfl) (fun _ => rfl) (control_same _ _) eiDelay_of_eiOk
theorem shape_subD (s : State) : Shape .subD s :=
  .registers _ _ _ _ _ rfl rfl (fun _ => Flags.pack_low _) (fun _ => rfl) (fun _ => rfl) (control_same _ _) eiDelay_of_eiOk
theorem shape_subE (s : State) : Shape .subE s :=
  .registers _ _ _ _ _ rfl rfl (fun _ => Flags.pack_low _) (fun _ => rfl) (fun _ => rfl) (control_same _ _) eiDelay_of_eiOk
theorem shape_subH (s : State) : Shape .subH s :=
  .registers _ _ _ _ _ rfl rfl (fun _ => Flags.pack_low _) (fun _ => rfl) (fun _ => rfl) (control_same _ _) eiDelay_of_eiOk
theorem shape_subL (s : State) : Shape .subL s :=
  .registers _ _ _ _ _ rfl rfl (fun _ => Flags.pack_low _) (fun _ => rfl) (fun _ => rfl) (control_same _ _) eiDelay_of_eiOk
theorem shape_subAtHl (s : State) : Shape .subAtHl s :=
  .registers _ _ _ _ _ rfl rfl (fun _ => Flags.pack_low _) (fun _ => rfl) (fun _ => rfl) (control_same _ _) eiDelay_of_eiOk
theorem shape_subA (s : State) : Shape .subA s :=
  .registers _ _ _ _ _ rfl rfl (fun _ => Flags.pack_low _) (fun _ => rfl) (fun _ => rfl) (control_same _ _) eiDelay_of_eiOk
theorem shape_sbcAB (s : State) : Shape .sbcAB s :=
  .registers _ _ _ _ _ rfl rfl (fun _ => Flags.pack_low _) (fun _ => rfl) (fun _ => rfl) (control_same _ _) eiDelay_of_eiOk
theorem shape_sbcAC (s : State) : Shape .sbcAC s :=
  .registers _ _ _ _ _ rfl rfl (fun _ => Flags.pack_low _) (fun _ => rfl) (fun _ => rfl) (control_same _ _) eiDelay_of_eiOk
theorem shape_sbcAD (s : State) : Shape .sbcAD s :=
  .registers _ _ _ _ _ rfl rfl (fun _ => Flags.pack_low _) (fun _ => rfl) (fun _ => rfl) (control_same _ _) eiDelay_of_eiOk
theorem shape_sbcAE (s : State) : Shape .sbcAE s :=
  .registers _ _ _ _ _ rfl rfl (fun _ => Flags.pack_low _) (fun _ => rfl) (fun _ => rfl) (control_same _ _) eiDelay_of_eiOk
theorem shape_sbcAH (s : State) : Shape .sbcAH s :=
  .registers _ _ _ _ _ rfl rfl (fun _ => Flags.pack_low _) (fun _ => rfl) (fun _ => rfl) (control_same _ _) eiDelay_of_eiOk
theorem shape_sbcAL (s : State) : Shape .sbcAL s :=
  .registers _ _ _ _ _ rfl rfl (fun _ => Flags.pack_low _) (fun _ => rfl) (fun _ => rfl) (control_same _ _) eiDelay_of_eiOk
theorem shape_sbcAAtHl (s : State) : Shape .sbcAAtHl s :=
  .registers _ _ _ _ _ rfl rfl (fun _ => Flags.pack_low _) (fun _ => rfl) (fun _ => rfl) (control_same _ _) eiDelay_of_eiOk
theorem shape_sbcAA (s : State) : Shape .sbcAA s :=
  .registers _ _ _ _ _ rfl rfl (fun _ => Flags.pack_low _) (fun _ => rfl) (fun _ => rfl) (control_same _ _) eiDelay_of_eiOk
theorem shape_andB (s : State) : Shape .andB s :=
  .registers _ _ _ _ _ rfl rfl (fun _ => Flags.pack_low _) (fun _ => rfl) (fun _ => rfl) (control_same _ _) eiDelay_of_eiOk
theorem shape_andC (s : State) : Shape .andC s :=
  .registers _ _ _ _ _ rfl rfl (fun _ => Flags.pack_low _) (fun _ => rfl) (fun _ => rfl) (control_same _ _) eiDelay_of_eiOk
theorem shape_andD (s : State) : Shape .andD s :=
  .registers _ _ _ _ _ rfl rfl (fun _ => Flags.pack_low _) (fun _ => rfl) (fun _ => rfl) (control_same _ _) eiDelay_of_eiOk
theorem shape_andE (s : State) : Shape .andE s :=
  .registers _ _ _ _ _ rfl rfl (fun _ => Flags.pack_low _) (fun _ => rfl) (fun _ => rfl) (control_same _ _) eiDelay_of_eiOk
theorem shape_andH (s : State) : Shape .andH s :=
  .registers _ _ _ _ _ rfl rfl (fun _ => Flags.pack_low _) (fun _ => rfl) (fun _ => rfl) (control_same _ _) eiDelay_of_eiOk
theorem shape_andL (s : State) : Shape .andL s :=
  .registers _ _ _ _ _ rfl rfl (fun _ => Flags.pack_low _) (fun _ => rfl) (fun _ => rfl) (control_same _ _) eiDelay_of_eiOk
theorem shape_andAtHl (s : State) : Shape .andAtHl s :=
  .registers _ _ _ _ _ rfl rfl (fun _ => Flags.pack_low _) (fun _ => rfl) (fun _ => rfl) (control_same _ _) eiDelay_of_eiOk
theorem shape_andA (s : State) : Shape .andA s :=
  .registers _ _ _ _ _ rfl rfl (fun _ => Flags.pack_low _) (fun _ => rfl) (fun _ => rfl) (control_same _ _) eiDelay_of_eiOk
theorem shape_xorB (s : State) : Shape .xorB s :=
  .registers _ _ _ _ _ rfl rfl (fun _ => Flags.pack_low _) (fun _ => rfl) (fun _ => rfl) (control_same _ _) eiDelay_of_eiOk
theorem shape_xorC (s : State) : Shape .xorC s :=
  .registers _ _ _ _ _ rfl rfl (fun _ => Flags.pack_low _) (fun _ => rfl) (fun _ => rfl) (control_same _ _) eiDelay_of_eiOk
theorem shape_xorD (s : State) : Shape .xorD s :=
  .registers _ _ _ _ _ rfl rfl (fun _ => Flags.pack_low _) (fun _ => rfl) (fun _ => rfl) (control_same _ _) eiDelay_of_eiOk
theorem shape_xorE (s : State) : Shape .xorE s :=
  .registers _ _ _ _ _ rfl rfl (fun _ => Flags.pack_low _) (fun _ => rfl) (fun _ => rfl) (control_same _ _) eiDelay_of_eiOk
theorem shape_xorH (s : State) : Shape .xorH s :=
  .registers _ _ _ _ _ rfl rfl (fun _ => Flags.pack_low _) (fun _ => rfl) (fun _ => rfl) (control_same _ _) eiDelay_of_eiOk
theorem shape_xorL (s : State) : Shape .xorL s :=
  .registers _ _ _ _ _ rfl rfl (fun _ => Flags.pack_low _) (fun _ => rfl) (fun _ => rfl) (control_same _ _) eiDelay_of_eiOk
theorem shape_xorAtHl (s : State) : Shape .xorAtHl s :=
  .registers _ _ _ _ _ rfl rfl (fun _ => Flags.pack_low _) (fun _ => rfl) (fun _ => rfl) (control_same _ _) eiDelay_of_eiOk
theorem shape_xorA (s : State) : Shape .xorA s :=
  .registers _ _ _ _ _ rfl rfl (fun _ => Flags.pack_low _) (fun _ => rfl) (fun _ => rfl) (control_same _ _) eiDelay_of_eiOk
theorem shape_orB (s : State) : Shape .orB s :=
  .registers _ _ _ _ _ rfl rfl (fun _ => Flags.pack_low _) (fun _ => rfl) (fun _ => rfl) (control_same _ _) eiDelay_of_eiOk
theorem shape_orC (s : State) : Shape .orC s :=
  .registers _ _ _ _ _ rfl rfl (fun _ => Flags.pack_low _) (fun _ => rfl) (fun _ => rfl) (control_same _ _) eiDelay_of_eiOk
theorem shape_orD (s : State) : Shape .orD s :=
  .registers _ _ _ _ _ rfl rfl (fun _ => Flags.pack_low _) (fun _ => rfl) (fun _ => rfl) (control_same _ _) eiDelay_of_eiOk
theorem shape_orE (s : State) : Shape .orE s :=
  .registers _ _ _ _ _ rfl rfl (fun _ => Flags.pack_low _) (fun _ => rfl) (fun _ => rfl) (control_same _ _) eiDelay_of_eiOk
theorem shape_orH (s : State) : Shape .orH s :=
  .registers _ _ _ _ _ rfl rfl (fun _ => Flags.pack_low _) (fun _ => rfl) (fun _ => rfl) (control_same _ _) eiDelay_of_eiOk
theorem shape_orL (s : State) : Shape .orL s :=
  .registers _ _ _ _ _ rfl rfl (fun _ => Flags.pack_low _) (fun _ => rfl) (fun _ => rfl) (control_same _ _) eiDelay_of_eiOk
theorem shape_orAtHl (s : State) : Shape .orAtHl s :=
  .registers _ _ _ _ _ rfl rfl (fun _ => Flags.pack_low _) (fun _ => rfl) (fun _ => rfl) (control_same _ _) eiDelay_of_eiOk
theorem shape_orA (s : State) : Shape .orA s :=
  .registers _ _ _ _ _ rfl rfl (fun _ => Flags.pack_low _) (fun _ => rfl) (fun _ => rfl) (control_same _ _) eiDelay_of_eiOk
theorem shape_cpB (s : State) : Shape .cpB s :=
  .registers _ _ _ _ _ rfl rfl (fun _ => Flags.pack_low _) (fun _ => rfl) (fun _ => rfl) (control_same _ _) eiDelay_of_eiOk
theorem shape_cpC (s : State) : Shape .cpC s :=
  .registers _ _ _ _ _ rfl rfl (fun _ => Flags.pack_low _) (fun _ => rfl) (fun _ => rfl) (control_same _ _) eiDelay_of_eiOk
theorem shape_cpD (s : State) : Shape .cpD s :=
  .registers _ _ _ _ _ rfl rfl (fun _ => Flags.pack_low _) (fun _ => rfl) (fun _ => rfl) (control_same _ _) eiDelay_of_eiOk
theorem shape_cpE (s : State) : Shape .cpE s :=
  .registers _ _ _ _ _ rfl rfl (fun _ => Flags.pack_low _) (fun _ => rfl) (fun _ => rfl) (control_same _ _) eiDelay_of_eiOk
theorem shape_cpH (s : State) : Shape .cpH s :=
  .registers _ _ _ _ _ rfl rfl (fun _ => Flags.pack_low _) (fun _ => rfl) (fun _ => rfl) (control_same _ _) eiDelay_of_eiOk
theorem shape_cpL (s : State) : Shape .cpL s :=
  .registers _ _ _ _ _ rfl rfl (fun _ => Flags.pack_low _) (fun _ => rfl) (fun _ => rfl) (control_same _ _) eiDelay_of_eiOk
theorem shape_cpAtHl (s : State) : Shape .cpAtHl s :=
  .registers _ _ _ _ _ rfl rfl (fun _ => Flags.pack_low _) (fun _ => rfl) (fun _ => rfl) (control_same _ _) eiDelay_of_eiOk
theorem shape_cpA (s : State) : Shape .cpA s :=
  .registers _ _ _ _ _ rfl rfl (fun _ => Flags.pack_low _) (fun _ => rfl) (fun _ => rfl) (control_same _ _) eiDelay_of_eiOk
theorem shape_retNz (s : State) : Shape .retNz s := by
  have ec : rowCycles .retNz s = if condHolds .nz s.flags then 20 else 8 := by rw [← State.met_eq]; rfl
  by_cases hc : condHolds .nz s.flags = true
  · rw [if_pos hc] at ec
    have eq : exec .retNz s = instr 1 20 Machine.ret s := if_pos hc
    exact .registers _ _ _ _ _ (by rw [eq, ec]; rfl) rfl id nofun nofun (control_same _ _) eiDelay_of_eiOk
  · rw [if_neg hc] at ec
    have eq : exec .retNz s = instr 1 8 .done s := if_neg hc
    exact .registers _ _ _ _ _ (by rw [eq, ec]; rfl) rfl id nofun nofun
      (control_same _ _) eiDelay_of_eiOk
theorem shape_popBc (s : State) : Shape .popBc s :=
  .registers _ _ _ _ _ rfl rfl id (fun _ => rfl) nofun (control_same _ _) eiDelay_of_eiOk
theorem shape_jpNzA16 (s : State) (a : Word) : Shape (.jpNzA16 a) s := by
  have ec : rowCycles (.jpNzA16 a) s = if condHolds .nz s.flags then 16 else 12 := by rw [← State.met_eq]; rfl
  by_cases hc : condHolds .nz s.flags = true
  · rw [if_pos hc] at ec
    have eq : exec (.jpNzA16 a) s = instr 3 16 (jump a) s := if_pos hc
    exact .registers _ _ _ _ _ (by rw [eq, ec]; rfl) rfl id nofun (fun _ => rfl) (control_same _ _) eiDelay_of_eiOk
  · rw [if_neg hc] at ec
    have eq : exec (.jpNzA16 a) s = instr 3 12 .done s := if_neg hc
    exact .registers _ _ _ _ _ (by rw [eq, ec]; rfl) rfl id nofun (fun _ => rfl)
      (control_same _ _) eiDelay_of_eiOk
theorem shape_jpA16 (s : State) (a : Word) : Shape (.jpA16 a) s :=
  .registers _ _ _ _ _ rfl rfl id nofun (fun _ => rfl) (control_same _ _) eiDelay_of_eiOk
theorem shape_callNzA16 (s : State) (a : Word) : Shape (.callNzA16 a) s := by
  have ec : rowCycles (.callNzA16 a) s = if condHolds .nz s.flags then 24 else 12 := by rw [← State.met_eq]; rfl
  by_cases hc : condHolds .nz s.flags = true
  · rw [if_pos hc] at ec
    have eq : exec (.callNzA16 a) s = instr 3 24 (call a) s := if_pos hc
    exact .push _ _ (by rw [eq, ec]; exact call_outcome s _ 3 24) (by show (if s.met .nz then s.pushed else []) = _; rw [State.met_eq, if_pos hc]) nofun rfl
  · rw [if_neg hc] at ec
    have eq : exec (.callNzA16 a) s = instr 3 12 .done s := if_neg hc
    exact .registers _ _ _ _ _ (by rw [eq, ec]; rfl) (by show (if s.met .nz then s.pushed else []) = _; rw [State.met_eq, if_neg hc]) id nofun nofun
      (control_same _ _) eiDelay_of_eiOk
theorem shape_pushBc (s : State) : Shape .pushBc s :=
  .push _ _ (push_outcome' s _ 1 16) rfl (fun _ => rfl) rfl
theorem shape_addAN8 (s : State) (n : Byte) : Shape (.addAN8 n) s :=
  .registers _ _ _ _ _ rfl rfl (fun _ => Flags.pack_low _) (fun _ => rfl) (fun _ => rfl) (control_same _ _) eiDelay_of_eiOk
theorem shape_rst00 (s : State) : Shape .rst00 s :=
  .push _ _ (call_outcome s _ 1 16) rfl nofun rfl
theorem shape_retZ (s : State) : Shape .retZ s := by
  have ec : rowCycles .retZ s = if condHolds .z s.flags then 20 else 8 := by rw [← State.met_eq]; rfl
  by_cases hc : condHolds .z s.flags = true
  · rw [if_pos hc] at ec
    have eq : exec .retZ s = instr 1 20 Machine.ret s := if_pos hc
    exact .registers _ _ _ _ _ (by rw [eq, ec]; rfl) rfl id nofun nofun (control_same _ _) eiDelay_of_eiOk
  · rw [if_neg hc] at ec
    have eq : exec .retZ s = instr 1 8 .done s := if_neg hc
    exact .registers _ _ _ _ _ (by rw [eq, ec]; rfl) rfl id nofun nofun
      (control_same _ _) eiDelay_of_eiOk
theorem shape_ret (s : State) : Shape .ret s :=
  .registers _ _ _ _ _ rfl rfl id nofun nofun (control_same _ _) eiDelay_of_eiOk
theorem shape_jpZA16 (s : State) (a : Word) : Shape (.jpZA16 a) s := by
  have ec : rowCycles (.jpZA16 a) s = if condHolds .z s.flags then 16 else 12 := by rw [← State.met_eq]; rfl
  by_cases hc : condHolds .z s.flags = true
  · rw [if_pos hc] at ec
    have eq : exec (.jpZA16 a) s = instr 3 16 (jump a) s := if_pos hc
    exact .registers _ _ _ _ _ (by rw [eq, ec]; rfl) rfl id nofun (fun _ => rfl) (control_same _ _) eiDelay_of_eiOk
  · rw [if_neg hc] at ec
    have eq : exec (.jpZA16 a) s = instr 3 12 .done s := if_neg hc
    exact .registers _ _ _ _ _ (by rw [eq, ec]; rfl) rfl id nofun (fun _ => rfl)
      (control_same _ _) eiDelay_of_eiOk
theorem shape_callZA16 (s : State) (a : Word) : Shape (.callZA16 a) s := by
  have ec : rowCycles (.callZA16 a) s = if condHolds .z s.flags then 24 else 12 := by rw [← State.met_eq]; rfl
  by_cases hc : condHolds .z s.flags = true
  · rw [if_pos hc] at ec
    have eq : exec (.callZA16 a) s = instr 3 24 (call a) s := if_pos hc
    exact .push _ _ (by rw [eq, ec]; exact call_outcome s _ 3 24) (by show (if s.met .z then s.pushed else []) = _; rw [State.met_eq, if_pos hc]) nofun rfl
  · rw [if_neg hc] at ec
    have eq : exec (.callZA16 a) s = instr 3 12 .done s := if_neg hc
    exact .registers _ _ _ _ _ (by rw [eq, ec]; rfl) (by show (if s.met .z then s.pushed else []) = _; rw [State.met_eq, if_neg hc]) id nofun nofun
      (control_same _ _) eiDelay_of_eiOk
theorem shape_callA16 (s : State) (a : Word) : Shape (.callA16 a) s :=
  .push _ _ (call_outcome s _ 3 24) rfl nofun rfl
theorem shape_adcAN8 (s : State) (n : Byte) : Shape (.adcAN8 n) s :=
  .registers _ _ _ _ _ rfl rfl (fun _ => Flags.pack_low _) (fun _ => rfl) (fun _ => rfl) (control_same _ _) eiDelay_of_eiOk
theorem shape_rst08 (s : State) : Shape .rst08 s :=
  .push _ _ (call_outcome s _ 1 16) rfl nofun rfl
theorem shape_retNc (s : State) : Shape .retNc s := by
  have ec : rowCycles .retNc s = if condHolds .nc s.flags then 20 else 8 := by rw [← State.met_eq]; rfl
  by_cases hc : condHolds .nc s.flags = true
  · rw [if_pos hc] at ec
    have eq : exec .retNc s = instr 1 20 Machine.ret s := if_pos hc
    exact .registers _ _ _ _ _ (by rw [eq, ec]; rfl) rfl id nofun nofun (control_same _ _) eiDelay_of_eiOk
  · rw [if_neg hc] at ec
    have eq : exec .retNc s = instr 1 8 .done s := if_neg hc
    exact .registers _ _ _ _ _ (by rw [eq, ec]; rfl) rfl id nofun nofun
      (control_same _ _) eiDelay_of_eiOk
theorem shape_popDe (s : State) : Shape .popDe s :=
  .registers _ _ _ _ _ rfl rfl id (fun _ => rfl) nofun (control_same _ _) eiDelay_of_eiOk
theorem shape_jpNcA16 (s : State) (a : Word) : Shape (.jpNcA16 a) s := by
  have ec : rowCycles (.jpNcA16 a) s = if condHolds .nc s.flags then 16 else 12 := by rw [← State.met_eq]; rfl
  by_cases hc : condHolds .nc s.flags = true
  · rw [if_pos hc] at ec
    have eq : exec (.jpNcA16 a) s = instr 3 16 (jump a) s := if_pos hc
    exact .registers _ _ _ _ _ (by rw [eq, ec]; rfl) rfl id nofun (fun _ => rfl) (control_same _ _) eiDelay_of_eiOk
  · rw [if_neg hc] at ec
    have eq : exec (.jpNcA16 a) s = instr 3 12 .done s := if_neg hc
    exact .registers _ _ _ _ _ (by rw [eq, ec]; rfl) rfl id nofun (fun _ => rfl)
      (control_same _ _) eiDelay_of_eiOk
theorem shape_undefinedD3 (s : State) : Shape .undefinedD3 s :=
  .registers _ _ _ _ _ rfl rfl id (fun _ => rfl) (fun _ => rfl) (control_same _ _) eiDelay_of_eiOk
theorem shape_callNcA16 (s : State) (a : Word) : Shape (.callNcA16 a) s := by
  have ec : rowCycles (.callNcA16 a) s = if condHolds .nc s.flags then 24 else 12 := by rw [← State.met_eq]; rfl
  by_cases hc : condHolds .nc s.flags = true
  · rw [if_pos hc] at ec
    have eq : exec (.callNcA16 a) s = instr 3 24 (call a) s := if_pos hc
    exact .push _ _ (by rw [eq, ec]; exact call_outcome s _ 3 24) (by show (if s.met .nc then s.pushed else []) = _; rw [State.met_eq, if_pos hc]) nofun rfl
  · rw [if_neg hc] at ec
    have eq : exec (.callNcA16 a) s = instr 3 12 .done s := if_neg hc
    exact .registers _ _ _ _ _ (by rw [eq, ec]; rfl) (by show (if s.met .nc then s.pushed else []) = _; rw [State.met_eq, if_neg hc]) id nofun nofun
      (control_same _ _) eiDelay_of_eiOk
theorem shape_pushDe (s : State) : Shape .pushDe s :=
  .push _ _ (push_outcome' s _ 1 16) rfl (fun _ => rfl) rfl
theorem shape_subN8 (s : State) (n : Byte) : Shape (.subN8 n) s :=
  .registers _ _ _ _ _ rfl rfl (fun _ => Flags.pack_low _) (fun _ => rfl) (fun _ => rfl) (control_same _ _) eiDelay_of_eiOk
theorem shape_rst10 (s : State) : Shape .rst10 s :=
  .push _ _ (call_outcome s _ 1 16) rfl nofun rfl
theorem shape_retC (s : State) : Shape .retC s := by
  have ec : rowCycles .retC s = if condHolds .c s.flags then 20 else 8 := by rw [← State.met_eq]; rfl
  by_cases hc : condHolds .c s.flags = true
  · rw [if_pos hc] at ec
    have eq : exec .retC s = instr 1 20 Machine.ret s := if_pos hc
    exact .registers _ _ _ _ _ (by rw [eq, ec]; rfl) rfl id nofun nofun (control_same _ _) eiDelay_of_eiOk
  · rw [if_neg hc] at ec
    have eq : exec .retC s = instr 1 8 .done s := if_neg hc
    exact .registers _ _ _ _ _ (by rw [eq, ec]; rfl) rfl id nofun nofun
      (control_same _ _) eiDelay_of_eiOk
theorem shape_reti (s : State) : Shape .reti s :=
  .registers _ _ _ _ _ rfl rfl id nofun nofun (fun _ _ c => absurd rfl c) (fun _ _ => rfl)
theorem shape_jpCA16 (s : State) (a : Word) : Shape (.jpCA16 a) s := by
  have ec : rowCycles (.jpCA16 a) s = if condHolds .c s.flags then 16 else 12 := by rw [← State.met_eq]; rfl
  by_cases hc : condHolds .c s.flags = true
  · rw [if_pos hc] at ec
    have eq : exec (.jpCA16 a) s = instr 3 16 (jump a) s := if_pos hc
    exact .registers _ _ _ _ _ (by rw [eq, ec]; rfl) rfl id nofun (fun _ => rfl) (control_same _ _) eiDelay_of_eiOk
  · rw [if_neg hc] at ec
    have eq : exec (.jpCA16 a) s = instr 3 12 .done s := if_neg hc
    exact .registers _ _ _ _ _ (by rw [eq, ec]; rfl) rfl id nofun (fun _ => rfl)
      (control_same _ _) eiDelay_of_eiOk
theorem shape_undefinedDB (s : State) : Shape .undefinedDB s :=
  .registers _ _ _ _ _ rfl rfl id (fun _ => rfl) (fun _ => rfl) (control_same _ _) eiDelay_of_eiOk
theorem shape_callCA16 (s : State) (a : Word) : Shape (.callCA16 a) s := by
  have ec : rowCycles (.callCA16 a) s = if condHolds .c s.flags then 24 else 12 := by rw [← State.met_eq]; rfl
  by_cases hc : condHolds .c s.flags = true
  · rw [if_pos hc] at ec
    have eq : exec (.callCA16 a) s = instr 3 24 (call a) s := if_pos hc
    exact .push _ _ (by rw [eq, ec]; exact call_outcome s _ 3 24) (by show (if s.met .c then s.pushed else []) = _; rw [State.met_eq, if_pos hc]) nofun rfl
  · rw [if_neg hc] at ec
    have eq : exec (.callCA16 a) s = instr 3 12 .done s := if_neg hc
    exact .registers _ _ _ _ _ (by rw [eq, ec]; rfl) (by show (if s.met .c then s.pushed else []) = _; rw [State.met_eq, if_neg hc]) id nofun nofun
      (control_same _ _) eiDelay_of_eiOk
theorem shape_undefinedDD (s : State) : Shape .undefinedDD s :=
  .registers _ _ _ _ _ rfl rfl id (fun _ => rfl) (fun _ => rfl) (control_same _ _) eiDelay_of_eiOk
theorem shape_sbcAN8 (s : State) (n : Byte) : Shape (.sbcAN8 n) s :=
  .registers _ _ _ _ _ rfl rfl (fun _ => Flags.pack_low _) (fun _ => rfl) (fun _ => rfl) (control_same _ _) eiDelay_of_eiOk
theorem shape_rst18 (s : State) : Shape .rst18 s :=
  .push _ _ (call_outcome s _ 1 16) rfl nofun rfl
theorem shape_ldhAtA8A (s : State) (a : Byte) : Shape (.ldhAtA8A a) s :=
  .store _ _ _ (store_outcome' s _ _ 2 12) rfl id
theorem shape_popHl (s : State) : Shape .popHl s :=
  .registers _ _ _ _ _ rfl rfl id (fun _ => rfl) nofun (control_same _ _) eiDelay_of_eiOk
theorem shape_ldAtCA (s : State) : Shape .ldAtCA s :=
  .store _ _ _ (store_outcome' s _ _ 1 8) rfl id
theorem shape_undefinedE3 (s : State) : Shape .undefinedE3 s :=
  .registers _ _ _ _ _ rfl rfl id (fun _ => rfl) (fun _ => rfl) (control_same _ _) eiDelay_of_eiOk
theorem shape_undefinedE4 (s : State) : Shape .undefinedE4 s :=
  .registers _ _ _ _ _ rfl rfl id (fun _ => rfl) (fun _ => rfl) (control_same _ _) eiDelay_of_eiOk
theorem shape_pushHl (s : State) : Shape .pushHl s :=
  .push _ _ (push_outcome' s _ 1 16) rfl (fun _ => rfl) rfl
theorem shape_andN8 (s : State) (n : Byte) : Shape (.andN8 n) s :=
  .registers _ _ _ _ _ rfl rfl (fun _ => Flags.pack_low _) (fun _ => rfl) (fun _ => rfl) (control_same _ _) eiDelay_of_eiOk
theorem shape_rst20 (s : State) : Shape .rst20 s :=
  .push _ _ (call_outcome s _ 1 16) rfl nofun rfl
theorem shape_addSpE8 (s : State) (e : Byte) : Shape (.addSpE8 e) s :=
  .registers _ _ _ _ _ rfl rfl (fun _ => Flags.pack_low _) (fun _ => rfl) nofun (control_same _ _) eiDelay_of_eiOk
theorem shape_jpHl (s : State) : Shape .jpHl s :=
  .registers _ _ _ _ _ rfl rfl id nofun (fun _ => rfl) (control_same _ _) eiDelay_of_eiOk
theorem shape_ldAtA16A (s : State) (a : Word) : Shape (.ldAtA16A a) s :=
  .store _ _ _ (store_outcome' s _ _ 3 16) rfl id
theorem shape_undefinedEB (s : State) : Shape .undefinedEB s :=
  .registers _ _ _ _ _ rfl rfl id (fun _ => rfl) (fun _ => rfl) (control_same _ _) eiDelay_of_eiOk
theorem shape_undefinedEC (s : State) : Shape .undefinedEC s :=
  .registers _ _ _ _ _ rfl rfl id (fun _ => rfl) (fun _ => rfl) (control_same _ _) eiDelay_of_eiOk
theorem shape_undefinedED (s : State) : Shape .undefinedED s :=
  .registers _ _ _ _ _ rfl rfl id (fun _ => rfl) (fun _ => rfl) (control_same _ _) eiDelay_of_eiOk
theorem shape_xorN8 (s : State) (n : Byte) : Shape (.xorN8 n) s :=
  .registers _ _ _ _ _ rfl rfl (fun _ => Flags.pack_low _) (fun _ => rfl) (fun _ => rfl) (control_same _ _) eiDelay_of_eiOk
theorem shape_rst28 (s : State) : Shape .rst28 s :=
  .push _ _ (call_outcome s _ 1 16) rfl nofun rfl
theorem shape_ldhAAtA8 (s : State) (a : Byte) : Shape (.ldhAAtA8 a) s :=
  .registers _ _ _ _ _ rfl rfl id (fun _ => rfl) (fun _ => rfl) (control_same _ _) eiDelay_of_eiOk
theorem shape_popAf (s : State) : Shape .popAf s :=
  .registers _ _ _ _ _ rfl rfl (fun _ => storedF_low _) (fun _ => rfl) nofun (control_same _ _) eiDelay_of_eiOk
theorem shape_ldAAtC (s : State) : Shape .ldAAtC s :=
  .registers _ _ _ _ _ rfl rfl id (fun _ => rfl) (fun _ => rfl) (control_same _ _) eiDelay_of_eiOk
theorem shape_di (s : State) : Shape .di s :=
  .registers _ _ _ _ _ rfl rfl id (fun _ => rfl) (fun _ => rfl) (fun _ b _ => absurd rfl b) (fun _ => nofun)
theorem shape_undefinedF4 (s : State) : Shape .undefinedF4 s :=
  .registers _ _ _ _ _ rfl rfl id (fun _ => rfl) (fun _ => rfl) (control_same _ _) eiDelay_of_eiOk
theorem shape_pushAf (s : State) : Shape .pushAf s :=
  .push _ _ (push_outcome' s _ 1 16) rfl (fun _ => rfl) rfl
theorem shape_orN8 (s : State) (n : Byte) : Shape (.orN8 n) s :=
  .registers _ _ _ _ _ rfl rfl (fun _ => Flags.pack_low _) (fun _ => rfl) (fun _ => rfl) (control_same _ _) eiDelay_of_eiOk
theorem shape_rst30 (s : State) : Shape .rst30 s :=
  .push _ _ (call_outcome s _ 1 16) rfl nofun rfl
theorem shape_ldHlSpE8 (s : State) (e : Byte) : Shape (.ldHlSpE8 e) s :=
  .registers _ _ _ _ _ rfl rfl (fun _ => Flags.pack_low _) (fun _ => rfl) (fun _ => rfl) (control_same _ _) eiDelay_of_eiOk
theorem shape_ldSpHl (s : State) : Shape .ldSpHl s :=
  .registers _ _ _ _ _ rfl rfl id (fun _ => rfl) nofun (control_same _ _) eiDelay_of_eiOk
theorem shape_ldAAtA16 (s : State) (a : Word) : Shape (.ldAAtA16 a) s :=
  .registers _ _ _ _ _ rfl rfl id (fun _ => rfl) (fun _ => rfl) (control_same _ _) eiDelay_of_eiOk
theorem shape_ei (s : State) : Shape .ei s := by
  by_cases hc : s.ime = false ∧ s.eiDelay = 0
  · refine .registers s.regs s.sp (s.pc + 1) s.ime 2 ?_ rfl id (fun _ => rfl) (fun _ => rfl) (fun h => absurd rfl h)
      (fun _ hb => by simp [hc.1] at hb)
    change Host.Outcome.next _ = _
    simp [hc]; rfl
  · refine .registers s.regs s.sp (s.pc + 1) s.ime s.eiDelay ?_ rfl id (fun _ => rfl) (fun _ => rfl)
      (fun h => absurd rfl h) eiDelay_of_eiOk
    change Host.Outcome.next _ = _
    simp only [if_neg hc]; rfl
theorem shape_undefinedFC (s : State) : Shape .undefinedFC s :=
  .registers _ _ _ _ _ rfl rfl id (fun _ => rfl) (fun _ => rfl) (control_same _ _) eiDelay_of_eiOk
theorem shape_undefinedFD (s : State) : Shape .undefinedFD s :=
  .registers _ _ _ _ _ rfl rfl id (fun _ => rfl) (fun _ => rfl) (control_same _ _) eiDelay_of_eiOk
theorem shape_cpN8 (s : State) (n : Byte) : Shape (.cpN8 n) s :=
  .registers _ _ _ _ _ rfl rfl (fun _ => Flags.pack_low _) (fun _ => rfl) (fun _ => rfl) (control_same _ _) eiDelay_of_eiOk
theorem shape_rst38 (s : State) : Shape .rst38 s :=
  .push _ _ (call_outcome s _ 1 16) rfl nofun rfl
theorem shape_rlcB (s : State) : Shape .rlcB s :=
  .registers _ _ _ _ _ rfl rfl (fun _ => Flags.pack_low _) (fun _ => rfl) (fun _ => rfl) (control_same _ _) eiDelay_of_eiOk
theorem shape_rlcC (s : State) : Shape .rlcC s :=
  .registers _ _ _ _ _ rfl rfl (fun _ => Flags.pack_low _) (fun _ => rfl) (fun _ => rfl) (control_same _ _) eiDelay_of_eiOk
theorem shape_rlcD (s : State) : Shape .rlcD s :=
  .registers _ _ _ _ _ rfl rfl (fun _ => Flags.pack_low _) (fun _ => rfl) (fun _ => rfl) (control_same _ _) eiDelay_of_eiOk
theorem shape_rlcE (s : State) : Shape .rlcE s :=
  .registers _ _ _ _ _ rfl rfl (fun _ => Flags.pack_low _) (fun _ => rfl) (fun _ => rfl) (control_same _ _) eiDelay_of_eiOk
theorem shape_rlcH (s : State) : Shape .rlcH s :=
  .registers _ _ _ _ _ rfl rfl (fun _ => Flags.pack_low _) (fun _ => rfl) (fun _ => rfl) (control_same _ _) eiDelay_of_eiOk
theorem shape_rlcL (s : State) : Shape .rlcL s :=
  .registers _ _ _ _ _ rfl rfl (fun _ => Flags.pack_low _) (fun _ => rfl) (fun _ => rfl) (control_same _ _) eiDelay_of_eiOk
theorem shape_rlcAtHl (s : State) : Shape .rlcAtHl s :=
  .store _ _ _ (modify_outcome s (fun v f => let r := rotate .rlc v f.c; (r.1, rotateFlags r.1 r.2)) 2 16) rfl
    (fun _ => Flags.pack_low _)
theorem shape_rlcA (s : State) : Shape .rlcA s :=
  .registers _ _ _ _ _ rfl rfl (fun _ => Flags.pack_low _) (fun _ => rfl) (fun _ => rfl) (control_same _ _) eiDelay_of_eiOk
theorem shape_rrcB (s : State) : Shape .rrcB s :=
  .registers _ _ _ _ _ rfl rfl (fun _ => Flags.pack_low _) (fun _ => rfl) (fun _ => rfl) (control_same _ _) eiDelay_of_eiOk
theorem shape_rrcC (s : State) : Shape .rrcC s :=
  .registers _ _ _ _ _ rfl rfl (fun _ => Flags.pack_low _) (fun _ => rfl) (fun _ => rfl) (control_same _ _) eiDelay_of_eiOk
theorem shape_rrcD (s : State) : Shape .rrcD s :=
  .registers _ _ _ _ _ rfl rfl (fun _ => Flags.pack_low _) (fun _ => rfl) (fun _ => rfl) (control_same _ _) eiDelay_of_eiOk
theorem shape_rrcE (s : State) : Shape .rrcE s :=
  .registers _ _ _ _ _ rfl rfl (fun _ => Flags.pack_low _) (fun _ => rfl) (fun _ => rfl) (control_same _ _) eiDelay_of_eiOk
theorem shape_rrcH (s : State) : Shape .rrcH s :=
  .registers _ _ _ _ _ rfl rfl (fun _ => Flags.pack_low _) (fun _ => rfl) (fun _ => rfl) (control_same _ _) eiDelay_of_eiOk
theorem shape_rrcL (s : State) : Shape .rrcL s :=
  .registers _ _ _ _ _ rfl rfl (fun _ => Flags.pack_low _) (fun _ => rfl) (fun _ => rfl) (control_same _ _) eiDelay_of_eiOk
theorem shape_rrcAtHl (s : State) : Shape .rrcAtHl s :=
  .store _ _ _ (modify_outcome s (fun v f => let r := rotate .rrc v f.c; (r.1, rotateFlags r.1 r.2)) 2 16) rfl
    (fun _ => Flags.pack_low _)
theorem shape_rrcA (s : State) : Shape .rrcA s :=
  .registers _ _ _ _ _ rfl rfl (fun _ => Flags.pack_low _) (fun _ => rfl) (fun _ => rfl) (control_same _ _) eiDelay_of_eiOk
theorem shape_rlB (s : State) : Shape .rlB s :=
  .registers _ _ _ _ _ rfl rfl (fun _ => Flags.pack_low _) (fun _ => rfl) (fun _ => rfl) (control_same _ _) eiDelay_of_eiOk
theorem shape_rlC (s : State) : Shape .rlC s :=
  .registers _ _ _ _ _ rfl rfl (fun _ => Flags.pack_low _) (fun _ => rfl) (fun _ => rfl) (control_same _ _) eiDelay_of_eiOk
theorem shape_rlD (s : State) : Shape .rlD s :=
  .registers _ _ _ _ _ rfl rfl (fun _ => Flags.pack_low _) (fun _ => rfl) (fun _ => rfl) (control_same _ _) eiDelay_of_eiOk
theorem shape_rlE (s : State) : Shape .rlE s :=
  .registers _ _ _ _ _ rfl rfl (fun _ => Flags.pack_low _) (fun _ => rfl) (fun _ => rfl) (control_same _ _) eiDelay_of_eiOk
theorem shape_rlH (s : State) : Shape .rlH s :=
  .registers _ _ _ _ _ rfl rfl (fun _ => Flags.pack_low _) (fun _ => rfl) (fun _ => rfl) (control_same _ _) eiDelay_of_eiOk
theorem shape_rlL (s : State) : Shape .rlL s :=
  .registers _ _ _ _ _ rfl rfl (fun _ => Flags.pack_low _) (fun _ => rfl) (fun _ => rfl) (control_same _ _) eiDelay_of_eiOk
theorem shape_rlAtHl (s : State) : Shape .rlAtHl s :=
  .store _ _ _ (modify_outcome s (fun v f => let r := rotate .rl v f.c; (r.1, rotateFlags r.1 r.2)) 2 16) rfl
    (fun _ => Flags.pack_low _)
theorem shape_rlA (s : State) : Shape .rlA s :=
  .registers _ _ _ _ _ rfl rfl (fun _ => Flags.pack_low _) (fun _ => rfl) (fun _ => rfl) (control_same _ _) eiDelay_of_eiOk
theorem shape_rrB (s : State) : Shape .rrB s :=
  .registers _ _ _ _ _ rfl rfl (fun _ => Flags.pack_low _) (fun _ => rfl) (fun _ => rfl) (control_same _ _) eiDelay_of_eiOk
theorem shape_rrC (s : State) : Shape .rrC s :=
  .registers _ _ _ _ _ rfl rfl (fun _ => Flags.pack_low _) (fun _ => rfl) (fun _ => rfl) (control_same _ _) eiDelay_of_eiOk
theorem shape_rrD (s : State) : Shape .rrD s :=
  .registers _ _ _ _ _ rfl rfl (fun _ => Flags.pack_low _) (fun _ => rfl) (fun _ => rfl) (control_same _ _) eiDelay_of_eiOk
theorem shape_rrE (s : State) : Shape .rrE s :=
  .registers _ _ _ _ _ rfl rfl (fun _ => Flags.pack_low _) (fun _ => rfl) (fun _ => rfl) (control_same _ _) eiDelay_of_eiOk
theorem shape_rrH (s : State) : Shape .rrH s :=
  .registers _ _ _ _ _ rfl rfl (fun _ => Flags.pack_low _) (fun _ => rfl) (fun _ => rfl) (control_same _ _) eiDelay_of_eiOk
theorem shape_rrL (s : State) : Shape .rrL s :=
  .registers _ _ _ _ _ rfl rfl (fun _ => Flags.pack_low _) (fun _ => rfl) (fun _ => rfl) (control_same _ _) eiDelay_of_eiOk
theorem shape_rrAtHl (s : State) : Shape .rrAtHl s :=
  .store _ _ _ (modify_outcome s (fun v f => let r := rotate .rr v f.c; (r.1, rotateFlags r.1 r.2)) 2 16) rfl
    (fun _ => Flags.pack_low _)
theorem shape_rrA (s : State) : Shape .rrA s :=
  .registers _ _ _ _ _ rfl rfl (fun _ => Flags.pack_low _) (fun _ => rfl) (fun _ => rfl) (control_same _ _) eiDelay_of_eiOk
theorem shape_slaB (s : State) : Shape .slaB s :=
  .registers _ _ _ _ _ rfl rfl (fun _ => Flags.pack_low _) (fun _ => rfl) (fun _ => rfl) (control_same _ _) eiDelay_of_eiOk
theorem shape_slaC (s : State) : Shape .slaC s :=
  .registers _ _ _ _ _ rfl rfl (fun _ => Flags.pack_low _) (fun _ => rfl) (fun _ => rfl) (control_same _ _) eiDelay_of_eiOk
theorem shape_slaD (s : State) : Shape .slaD s :=
  .registers _ _ _ _ _ rfl rfl (fun _ => Flags.pack_low _) (fun _ => rfl) (fun _ => rfl) (control_same _ _) eiDelay_of_eiOk
theorem shape_slaE (s : State) : Shape .slaE s :=
  .registers _ _ _ _ _ rfl rfl (fun _ => Flags.pack_low _) (fun _ => rfl) (fun _ => rfl) (control_same _ _) eiDelay_of_eiOk
theorem shape_slaH (s : State) : Shape .slaH s :=
  .registers _ _ _ _ _ rfl rfl (fun _ => Flags.pack_low _) (fun _ => rfl) (fun _ => rfl) (control_same _ _) eiDelay_of_eiOk
theorem shape_slaL (s : State) : Shape .slaL s :=
  .registers _ _ _ _ _ rfl rfl (fun _ => Flags.pack_low _) (fun _ => rfl) (fun _ => rfl) (control_same _ _) eiDelay_of_eiOk
theorem shape_slaAtHl (s : State) : Shape .slaAtHl s :=
  .store _ _ _ (modify_outcome s (fun v f => let r := rotate .sla v f.c; (r.1, rotateFlags r.1 r.2)) 2 16) rfl
    (fun _ => Flags.pack_low _)
theorem shape_slaA (s : State) : Shape .slaA s :=
  .registers _ _ _ _ _ rfl rfl (fun _ => Flags.pack_low _) (fun _ => rfl) (fun _ => rfl) (control_same _ _) eiDelay_of_eiOk
theorem shape_sraB (s : State) : Shape .sraB s :=
  .registers _ _ _ _ _ rfl rfl (fun _ => Flags.pack_low _) (fun _ => rfl) (fun _ => rfl) (control_same _ _) eiDelay_of_eiOk
theorem shape_sraC (s : State) : Shape .sraC s :=
  .registers _ _ _ _ _ rfl rfl (fun _ => Flags.pack_low _) (fun _ => rfl) (fun _ => rfl) (control_same _ _) eiDelay_of_eiOk
theorem shape_sraD (s : State) : Shape .sraD s :=
  .registers _ _ _ _ _ rfl rfl (fun _ => Flags.pack_low _) (fun _ => rfl) (fun _ => rfl) (control_same _ _) eiDelay_of_eiOk
theorem shape_sraE (s : State) : Shape .sraE s :=
  .registers _ _ _ _ _ rfl rfl (fun _ => Flags.pack_low _) (fun _ => rfl) (fun _ => rfl) (control_same _ _) eiDelay_of_eiOk
theorem shape_sraH (s : State) : Shape .sraH s :=
  .registers _ _ _ _ _ rfl rfl (fun _ => Flags.pack_low _) (fun _ => rfl) (fun _ => rfl) (control_same _ _) eiDelay_of_eiOk
theorem shape_sraL (s : State) : Shape .sraL s :=
  .registers _ _ _ _ _ rfl rfl (fun _ => Flags.pack_low _) (fun _ => rfl) (fun _ => rfl) (control_same _ _) eiDelay_of_eiOk
theorem shape_sraAtHl (s : State) : Shape .sraAtHl s :=
  .store _ _ _ (modify_outcome s (fun v f => let r := rotate .sra v f.c; (r.1, rotateFlags r.1 r.2)) 2 16) rfl
    (fun _ => Flags.pack_low _)
theorem shape_sraA (s : State) : Shape .sraA s :=
  .registers _ _ _ _ _ rfl rfl (fun _ => Flags.pack_low _) (fun _ => rfl) (fun _ => rfl) (control_same _ _) eiDelay_of_eiOk
theorem shape_swapB (s : State) : Shape .swapB s :=
  .registers _ _ _ _ _ rfl rfl (fun _ => Flags.pack_low _) (fun _ => rfl) (fun _ => rfl) (control_same _ _) eiDelay_of_eiOk
theorem shape_swapC (s : State) : Shape .swapC s :=
  .registers _ _ _ _ _ rfl rfl (fun _ => Flags.pack_low _) (fun _ => rfl) (fun _ => rfl) (control_same _ _) eiDelay_of_eiOk
theorem shape_swapD (s : State) : Shape .swapD s :=
  .registers _ _ _ _ _ rfl rfl (fun _ => Flags.pack_low _) (fun _ => rfl) (fun _ => rfl) (control_same _ _) eiDelay_of_eiOk
theorem shape_swapE (s : State) : Shape .swapE s :=
  .registers _ _ _ _ _ rfl rfl (fun _ => Flags.pack_low _) (fun _ => rfl) (fun _ => rfl) (control_same _ _) eiDelay_of_eiOk
theorem shape_swapH (s : State) : Shape .swapH s :=
  .registers _ _ _ _ _ rfl rfl (fun _ => Flags.pack_low _) (fun _ => rfl) (fun _ => rfl) (control_same _ _) eiDelay_of_eiOk
theorem shape_swapL (s : State) : Shape .swapL s :=
  .registers _ _ _ _ _ rfl rfl (fun _ => Flags.pack_low _) (fun _ => rfl) (fun _ => rfl) (control_same _ _) eiDelay_of_eiOk
theorem shape_swapAtHl (s : State) : Shape .swapAtHl s :=
  .store _ _ _ (modify_outcome s (fun v f => let r := rotate .swap v f.c; (r.1, rotateFlags r.1 r.2)) 2 16) rfl
    (fun _ => Flags.pack_low _)
theorem shape_swapA (s : State) : Shape .swapA s :=
  .registers _ _ _ _ _ rfl rfl (fun _ => Flags.pack_low _) (fun _ => rfl) (fun _ => rfl) (control_same _ _) eiDelay_of_eiOk
theorem shape_srlB (s : State) : Shape .srlB s :=
  .registers _ _ _ _ _ rfl rfl (fun _ => Flags.pack_low _) (fun _ => rfl) (fun _ => rfl) (control_same _ _) eiDelay_of_eiOk
theorem shape_srlC (s : State) : Shape .srlC s :=
  .registers _ _ _ _ _ rfl rfl (fun _ => Flags.pack_low _) (fun _ => rfl) (fun _ => rfl) (control_same _ _) eiDelay_of_eiOk
theorem shape_srlD (s : State) : Shape .srlD s :=
  .registers _ _ _ _ _ rfl rfl (fun _ => Flags.pack_low _) (fun _ => rfl) (fun _ => rfl) (control_same _ _) eiDelay_of_eiOk
theorem shape_srlE (s : State) : Shape .srlE s :=
  .registers _ _ _ _ _ rfl rfl (fun _ => Flags.pack_low _) (fun _ => rfl) (fun _ => rfl) (control_same _ _) eiDelay_of_eiOk
theorem shape_srlH (s : State) : Shape .srlH s :=
  .registers _ _ _ _ _ rfl rfl (fun _ => Flags.pack_low _) (fun _ => rfl) (fun _ => rfl) (control_same _ _) eiDelay_of_eiOk
theorem shape_srlL (s : State) : Shape .srlL s :=
  .registers _ _ _ _ _ rfl rfl (fun _ => Flags.pack_low _) (fun _ => rfl) (fun _ => rfl) (control_same _ _) eiDelay_of_eiOk
theorem shape_srlAtHl (s : State) : Shape .srlAtHl s :=
  .store _ _ _ (modify_outcome s (fun v f => let r := rotate .srl v f.c; (r.1, rotateFlags r.1 r.2)) 2 16) rfl
    (fun _ => Flags.pack_low _)
theorem shape_srlA (s : State) : Shape .srlA s :=
  .registers _ _ _ _ _ rfl rfl (fun _ => Flags.pack_low _) (fun _ => rfl) (fun _ => rfl) (control_same _ _) eiDelay_of_eiOk
theorem shape_bit0B (s : State) : Shape .bit0B s :=
  .registers _ _ _ _ _ rfl rfl (fun _ => Flags.pack_low _) (fun _ => rfl) (fun _ => rfl) (control_same _ _) eiDelay_of_eiOk
theorem shape_bit0C (s : State) : Shape .bit0C s :=
  .registers _ _ _ _ _ rfl rfl (fun _ => Flags.pack_low _) (fun _ => rfl) (fun _ => rfl) (control_same _ _) eiDelay_of_eiOk
theorem shape_bit0D (s : State) : Shape .bit0D s :=
  .registers _ _ _ _ _ rfl rfl (fun _ => Flags.pack_low _) (fun _ => rfl) (fun _ => rfl) (control_same _ _) eiDelay_of_eiOk
theorem shape_bit0E (s : State) : Shape .bit0E s :=
  .registers _ _ _ _ _ rfl rfl (fun _ => Flags.pack_low _) (fun _ => rfl) (fun _ => rfl) (control_same _ _) eiDelay_of_eiOk
theorem shape_bit0H (s : State) : Shape .bit0H s :=
  .registers _ _ _ _ _ rfl rfl (fun _ => Flags.pack_low _) (fun _ => rfl) (fun _ => rfl) (control_same _ _) eiDelay_of_eiOk
theorem shape_bit0L (s : State) : Shape .bit0L s :=
  .registers _ _ _ _ _ rfl rfl (fun _ => Flags.pack_low _) (fun _ => rfl) (fun _ => rfl) (control_same _ _) eiDelay_of_eiOk
theorem shape_bit0AtHl (s : State) : Shape .bit0AtHl s :=
  .registers _ _ _ _ _ rfl rfl (fun _ => Flags.pack_low _) (fun _ => rfl) (fun _ => rfl) (control_same _ _) eiDelay_of_eiOk
theorem shape_bit0A (s : State) : Shape .bit0A s :=
  .registers _ _ _ _ _ rfl rfl (fun _ => Flags.pack_low _) (fun _ => rfl) (fun _ => rfl) (control_same _ _) eiDelay_of_eiOk
theorem shape_bit1B (s : State) : Shape .bit1B s :=
  .registers _ _ _ _ _ rfl rfl (fun _ => Flags.pack_low _) (fun _ => rfl) (fun _ => rfl) (control_same _ _) eiDelay_of_eiOk
theorem shape_bit1C (s : State) : Shape .bit1C s :=
  .registers _ _ _ _ _ rfl rfl (fun _ => Flags.pack_low _) (fun _ => rfl) (fun _ => rfl) (control_same _ _) eiDelay_of_eiOk
theorem shape_bit1D (s : State) : Shape .bit1D s :=
  .registers _ _ _ _ _ rfl rfl (fun _ => Flags.pack_low _) (fun _ => rfl) (fun _ => rfl) (control_same _ _) eiDelay_of_eiOk
theorem shape_bit1E (s : State) : Shape .bit1E s :=
  .registers _ _ _ _ _ rfl rfl (fun _ => Flags.pack_low _) (fun _ => rfl) (fun _ => rfl) (control_same _ _) eiDelay_of_eiOk
theorem shape_bit1H (s : State) : Shape .bit1H s :=
  .registers _ _ _ _ _ rfl rfl (fun _ => Flags.pack_low _) (fun _ => rfl) (fun _ => rfl) (control_same _ _) eiDelay_of_eiOk
theorem shape_bit1L (s : State) : Shape .bit1L s :=
  .registers _ _ _ _ _ rfl rfl (fun _ => Flags.pack_low _) (fun _ => rfl) (fun _ => rfl) (control_same _ _) eiDelay_of_eiOk
theorem shape_bit1AtHl (s : State) : Shape .bit1AtHl s :=
  .registers _ _ _ _ _ rfl rfl (fun _ => Flags.pack_low _) (fun _ => rfl) (fun _ => rfl) (control_same _ _) eiDelay_of_eiOk
theorem shape_bit1A (s : State) : Shape .bit1A s :=
  .registers _ _ _ _ _ rfl rfl (fun _ => Flags.pack_low _) (fun _ => rfl) (fun _ => rfl) (control_same _ _) eiDelay_of_eiOk
theorem shape_bit2B (s : State) : Shape .bit2B s :=
  .registers _ _ _ _ _ rfl rfl (fun _ => Flags.pack_low _) (fun _ => rfl) (fun _ => rfl) (control_same _ _) eiDelay_of_eiOk
theorem shape_bit2C (s : State) : Shape .bit2C s :=
  .registers _ _ _ _ _ rfl rfl (fun _ => Flags.pack_low _) (fun _ => rfl) (fun _ => rfl) (control_same _ _) eiDelay_of_eiOk
theorem shape_bit2D (s : State) : Shape .bit2D s :=
  .registers _ _ _ _ _ rfl rfl (fun _ => Flags.pack_low _) (fun _ => rfl) (fun _ => rfl) (control_same _ _) eiDelay_of_eiOk
theorem shape_bit2E (s : State) : Shape .bit2E s :=
  .registers _ _ _ _ _ rfl rfl (fun _ => Flags.pack_low _) (fun _ => rfl) (fun _ => rfl) (control_same _ _) eiDelay_of_eiOk
theorem shape_bit2H (s : State) : Shape .bit2H s :=
  .registers _ _ _ _ _ rfl rfl (fun _ => Flags.pack_low _) (fun _ => rfl) (fun _ => rfl) (control_same _ _) eiDelay_of_eiOk
theorem shape_bit2L (s : State) : Shape .bit2L s :=
  .registers _ _ _ _ _ rfl rfl (fun _ => Flags.pack_low _) (fun _ => rfl) (fun _ => rfl) (control_same _ _) eiDelay_of_eiOk
theorem shape_bit2AtHl (s : State) : Shape .bit2AtHl s :=
  .registers _ _ _ _ _ rfl rfl (fun _ => Flags.pack_low _) (fun _ => rfl) (fun _ => rfl) (control_same _ _) eiDelay_of_eiOk
theorem shape_bit2A (s : State) : Shape .bit2A s :=
  .registers _ _ _ _ _ rfl rfl (fun _ => Flags.pack_low _) (fun _ => rfl) (fun _ => rfl) (control_same _ _) eiDelay_of_eiOk
theorem shape_bit3B (s : State) : Shape .bit3B s :=
  .registers _ _ _ _ _ rfl rfl (fun _ => Flags.pack_low _) (fun _ => rfl) (fun _ => rfl) (control_same _ _) eiDelay_of_eiOk
theorem shape_bit3C (s : State) : Shape .bit3C s :=
  .registers _ _ _ _ _ rfl rfl (fun _ => Flags.pack_low _) (fun _ => rfl) (fun _ => rfl) (control_same _ _) eiDelay_of_eiOk
theorem shape_bit3D (s : State) : Shape .bit3D s :=
  .registers _ _ _ _ _ rfl rfl (fun _ => Flags.pack_low _) (fun _ => rfl) (fun _ => rfl) (control_same _ _) eiDelay_of_eiOk
theorem shape_bit3E (s : State) : Shape .bit3E s :=
  .registers _ _ _ _ _ rfl rfl (fun _ => Flags.pack_low _) (fun _ => rfl) (fun _ => rfl) (control_same _ _) eiDelay_of_eiOk
theorem shape_bit3H (s : State) : Shape .bit3H s :=
  .registers _ _ _ _ _ rfl rfl (fun _ => Flags.pack_low _) (fun _ => rfl) (fun _ => rfl) (control_same _ _) eiDelay_of_eiOk
theorem shape_bit3L (s : State) : Shape .bit3L s :=
  .registers _ _ _ _ _ rfl rfl (fun _ => Flags.pack_low _) (fun _ => rfl) (fun _ => rfl) (control_same _ _) eiDelay_of_eiOk
theorem shape_bit3AtHl (s : State) : Shape .bit3AtHl s :=
  .registers _ _ _ _ _ rfl rfl (fun _ => Flags.pack_low _) (fun _ => rfl) (fun _ => rfl) (control_same _ _) eiDelay_of_eiOk
theorem shape_bit3A (s : State) : Shape .bit3A s :=
  .registers _ _ _ _ _ rfl rfl (fun _ => Flags.pack_low _) (fun _ => rfl) (fun _ => rfl) (control_same _ _) eiDelay_of_eiOk
theorem shape_bit4B (s : State) : Shape .bit4B s :=
  .registers _ _ _ _ _ rfl rfl (fun _ => Flags.pack_low _) (fun _ => rfl) (fun _ => rfl) (control_same _ _) eiDelay_of_eiOk
theorem shape_bit4C (s : State) : Shape .bit4C s :=
  .registers _ _ _ _ _ rfl rfl (fun _ => Flags.pack_low _) (fun _ => rfl) (fun _ => rfl) (control_same _ _) eiDelay_of_eiOk
theorem shape_bit4D (s : State) : Shape .bit4D s :=
  .registers _ _ _ _ _ rfl rfl (fun _ => Flags.pack_low _) (fun _ => rfl) (fun _ => rfl) (control_same _ _) eiDelay_of_eiOk
theorem shape_bit4E (s : State) : Shape .bit4E s :=
  .registers _ _ _ _ _ rfl rfl (fun _ => Flags.pack_low _) (fun _ => rfl) (fun _ => rfl) (control_same _ _) eiDelay_of_eiOk
theorem shape_bit4H (s : State) : Shape .bit4H s :=
  .registers _ _ _ _ _ rfl rfl (fun _ => Flags.pack_low _) (fun _ => rfl) (fun _ => rfl) (control_same _ _) eiDelay_of_eiOk
theorem shape_bit4L (s : State) : Shape .bit4L s :=
  .registers _ _ _ _ _ rfl rfl (fun _ => Flags.pack_low _) (fun _ => rfl) (fun _ => rfl) (control_same _ _) eiDelay_of_eiOk
theorem shape_bit4AtHl (s : State) : Shape .bit4AtHl s :=
  .registers _ _ _ _ _ rfl rfl (fun _ => Flags.pack_low _) (fun _ => rfl) (fun _ => rfl) (control_same _ _) eiDelay_of_eiOk
theorem shape_bit4A (s : State) : Shape .bit4A s :=
  .registers _ _ _ _ _ rfl rfl (fun _ => Flags.pack_low _) (fun _ => rfl) (fun _ => rfl) (control_same _ _) eiDelay_of_eiOk
theorem shape_bit5B (s : State) : Shape .bit5B s :=
  .registers _ _ _ _ _ rfl rfl (fun _ => Flags.pack_low _) (fun _ => rfl) (fun _ => rfl) (control_same _ _) eiDelay_of_eiOk
theorem shape_bit5C (s : State) : Shape .bit5C s :=
  .registers _ _ _ _ _ rfl rfl (fun _ => Flags.pack_low _) (fun _ => rfl) (fun _ => rfl) (control_same _ _) eiDelay_of_eiOk
theorem shape_bit5D (s : State) : Shape .bit5D s :=
  .registers _ _ _ _ _ rfl rfl (fun _ => Flags.pack_low _) (fun _ => rfl) (fun _ => rfl) (control_same _ _) eiDelay_of_eiOk
theorem shape_bit5E (s : State) : Shape .bit5E s :=
  .registers _ _ _ _ _ rfl rfl (fun _ => Flags.pack_low _) (fun _ => rfl) (fun _ => rfl) (control_same _ _) eiDelay_of_eiOk
theorem shape_bit5H (s : State) : Shape .bit5H s :=
  .registers _ _ _ _ _ rfl rfl (fun _ => Flags.pack_low _) (fun _ => rfl) (fun _ => rfl) (control_same _ _) eiDelay_of_eiOk
theorem shape_bit5L (s : State) : Shape .bit5L s :=
  .registers _ _ _ _ _ rfl rfl (fun _ => Flags.pack_low _) (fun _ => rfl) (fun _ => rfl) (control_same _ _) eiDelay_of_eiOk
theorem shape_bit5AtHl (s : State) : Shape .bit5AtHl s :=
  .registers _ _ _ _ _ rfl rfl (fun _ => Flags.pack_low _) (fun _ => rfl) (fun _ => rfl) (control_same _ _) eiDelay_of_eiOk
theorem shape_bit5A (s : State) : Shape .bit5A s :=
  .registers _ _ _ _ _ rfl rfl (fun _ => Flags.pack_low _) (fun _ => rfl) (fun _ => rfl) (control_same _ _) eiDelay_of_eiOk
theorem shape_bit6B (s : State) : Shape .bit6B s :=
  .registers _ _ _ _ _ rfl rfl (fun _ => Flags.pack_low _) (fun _ => rfl) (fun _ => rfl) (control_same _ _) eiDelay_of_eiOk
theorem shape_bit6C (s : State) : Shape .bit6C s :=
  .registers _ _ _ _ _ rfl rfl (fun _ => Flags.pack_low _) (fun _ => rfl) (fun _ => rfl) (control_same _ _) eiDelay_of_eiOk
theorem shape_bit6D (s : State) : Shape .bit6D s :=
  .registers _ _ _ _ _ rfl rfl (fun _ => Flags.pack_low _) (fun _ => rfl) (fun _ => rfl) (control_same _ _) eiDelay_of_eiOk
theorem shape_bit6E (s : State) : Shape .bit6E s :=
  .registers _ _ _ _ _ rfl rfl (fun _ => Flags.pack_low _) (fun _ => rfl) (fun _ => rfl) (control_same _ _) eiDelay_of_eiOk
theorem shape_bit6H (s : State) : Shape .bit6H s :=
  .registers _ _ _ _ _ rfl rfl (fun _ => Flags.pack_low _) (fun _ => rfl) (fun _ => rfl) (control_same _ _) eiDelay_of_eiOk
theorem shape_bit6L (s : State) : Shape .bit6L s :=
  .registers _ _ _ _ _ rfl rfl (fun _ => Flags.pack_low _) (fun _ => rfl) (fun _ => rfl) (control_same _ _) eiDelay_of_eiOk
theorem shape_bit6AtHl (s : State) : Shape .bit6AtHl s :=
  .registers _ _ _ _ _ rfl rfl (fun _ => Flags.pack_low _) (fun _ => rfl) (fun _ => rfl) (control_same _ _) eiDelay_of_eiOk
theorem shape_bit6A (s : State) : Shape .bit6A s :=
  .registers _ _ _ _ _ rfl rfl (fun _ => Flags.pack_low _) (fun _ => rfl) (fun _ => rfl) (control_same _ _) eiDelay_of_eiOk
theorem shape_bit7B (s : State) : Shape .bit7B s :=
  .registers _ _ _ _ _ rfl rfl (fun _ => Flags.pack_low _) (fun _ => rfl) (fun _ => rfl) (control_same _ _) eiDelay_of_eiOk
theorem shape_bit7C (s : State) : Shape .bit7C s :=
  .registers _ _ _ _ _ rfl rfl (fun _ => Flags.pack_low _) (fun _ => rfl) (fun _ => rfl) (control_same _ _) eiDelay_of_eiOk
theorem shape_bit7D (s : State) : Shape .bit7D s :=
  .registers _ _ _ _ _ rfl rfl (fun _ => Flags.pack_low _) (fun _ => rfl) (fun _ => rfl) (control_same _ _) eiDelay_of_eiOk
theorem shape_bit7E (s : State) : Shape .bit7E s :=
  .registers _ _ _ _ _ rfl rfl (fun _ => Flags.pack_low _) (fun _ => rfl) (fun _ => rfl) (control_same _ _) eiDelay_of_eiOk
theorem shape_bit7H (s : State) : Shape .bit7H s :=
  .registers _ _ _ _ _ rfl rfl (fun _ => Flags.pack_low _) (fun _ => rfl) (fun _ => rfl) (control_same _ _) eiDelay_of_eiOk
theorem shape_bit7L (s : State) : Shape .bit7L s :=
  .registers _ _ _ _ _ rfl rfl (fun _ => Flags.pack_low _) (fun _ => rfl) (fun _ => rfl) (control_same _ _) eiDelay_of_eiOk
theorem shape_bit7AtHl (s : State) : Shape .bit7AtHl s :=
  .registers _ _ _ _ _ rfl rfl (fun _ => Flags.pack_low _) (fun _ => rfl) (fun _ => rfl) (control_same _ _) eiDelay_of_eiOk
theorem shape_bit7A (s : State) : Shape .bit7A s :=
  .registers _ _ _ _ _ rfl rfl (fun _ => Flags.pack_low _) (fun _ => rfl) (fun _ => rfl) (control_same _ _) eiDelay_of_eiOk
theorem shape_res0B (s : State) : Shape .res0B s :=
  .registers _ _ _ _ _ rfl rfl id (fun _ => rfl) (fun _ => rfl) (control_same _ _) eiDelay_of_eiOk
theorem shape_res0C (s : State) : Shape .res0C s :=
  .registers _ _ _ _ _ rfl rfl id (fun _ => rfl) (fun _ => rfl) (control_same _ _) eiDelay_of_eiOk
theorem shape_res0D (s : State) : Shape .res0D s :=
  .registers _ _ _ _ _ rfl rfl id (fun _ => rfl) (fun _ => rfl) (control_same _ _) eiDelay_of_eiOk
theorem shape_res0E (s : State) : Shape .res0E s :=
  .registers _ _ _ _ _ rfl rfl id (fun _ => rfl) (fun _ => rfl) (control_same _ _) eiDelay_of_eiOk
theorem shape_res0H (s : State) : Shape .res0H s :=
  .registers _ _ _ _ _ rfl rfl id (fun _ => rfl) (fun _ => rfl) (control_same _ _) eiDelay_of_eiOk
theorem shape_res0L (s : State) : Shape .res0L s :=
  .registers _ _ _ _ _ rfl rfl id (fun _ => rfl) (fun _ => rfl) (control_same _ _) eiDelay_of_eiOk
theorem shape_res0AtHl (s : State) : Shape .res0AtHl s :=
  .store _ _ _ (store_outcome' s _ _ 2 16) rfl id
theorem shape_res0A (s : State) : Shape .res0A s :=
  .registers _ _ _ _ _ rfl rfl id (fun _ => rfl) (fun _ => rfl) (control_same _ _) eiDelay_of_eiOk
theorem shape_res1B (s : State) : Shape .res1B s :=
  .registers _ _ _ _ _ rfl rfl id (fun _ => rfl) (fun _ => rfl) (control_same _ _) eiDelay_of_eiOk
theorem shape_res1C (s : State) : Shape .res1C s :=
  .registers _ _ _ _ _ rfl rfl id (fun _ => rfl) (fun _ => rfl) (control_same _ _) eiDelay_of_eiOk
theorem shape_res1D (s : State) : Shape .res1D s :=
  .registers _ _ _ _ _ rfl rfl id (fun _ => rfl) (fun _ => rfl) (control_same _ _) eiDelay_of_eiOk
theorem shape_res1E (s : State) : Shape .res1E s :=
  .registers _ _ _ _ _ rfl rfl id (fun _ => rfl) (fun _ => rfl) (control_same _ _) eiDelay_of_eiOk
theorem shape_res1H (s : State) : Shape .res1H s :=
  .registers _ _ _ _ _ rfl rfl id (fun _ => rfl) (fun _ => rfl) (control_same _ _) eiDelay_of_eiOk
theorem shape_res1L (s : State) : Shape .res1L s :=
  .registers _ _ _ _ _ rfl rfl id (fun _ => rfl) (fun _ => rfl) (control_same _ _) eiDelay_of_eiOk
theorem shape_res1AtHl (s : State) : Shape .res1AtHl s :=
  .store _ _ _ (store_outcome' s _ _ 2 16) rfl id
theorem shape_res1A (s : State) : Shape .res1A s :=
  .registers _ _ _ _ _ rfl rfl id (fun _ => rfl) (fun _ => rfl) (control_same _ _) eiDelay_of_eiOk
theorem shape_res2B (s : State) : Shape .res2B s :=
  .registers _ _ _ _ _ rfl rfl id (fun _ => rfl) (fun _ => rfl) (control_same _ _) eiDelay_of_eiOk
theorem shape_res2C (s : State) : Shape .res2C s :=
  .registers _ _ _ _ _ rfl rfl id (fun _ => rfl) (fun _ => rfl) (control_same _ _) eiDelay_of_eiOk
theorem shape_res2D (s : State) : Shape .res2D s :=
  .registers _ _ _ _ _ rfl rfl id (fun _ => rfl) (fun _ => rfl) (control_same _ _) eiDelay_of_eiOk
theorem shape_res2E (s : State) : Shape .res2E s :=
  .registers _ _ _ _ _ rfl rfl id (fun _ => rfl) (fun _ => rfl) (control_same _ _) eiDelay_of_eiOk
theorem shape_res2H (s : State) : Shape .res2H s :=
  .registers _ _ _ _ _ rfl rfl id (fun _ => rfl) (fun _ => rfl) (control_same _ _) eiDelay_of_eiOk
theorem shape_res2L (s : State) : Shape .res2L s :=
  .registers _ _ _ _ _ rfl rfl id (fun _ => rfl) (fun _ => rfl) (control_same _ _) eiDelay_of_eiOk
theorem shape_res2AtHl (s : State) : Shape .res2AtHl s :=
  .store _ _ _ (store_outcome' s _ _ 2 16) rfl id
theorem shape_res2A (s : State) : Shape .res2A s :=
  .registers _ _ _ _ _ rfl rfl id (fun _ => rfl) (fun _ => rfl) (control_same _ _) eiDelay_of_eiOk
theorem shape_res3B (s : State) : Shape .res3B s :=
  .registers _ _ _ _ _ rfl rfl id (fun _ => rfl) (fun _ => rfl) (control_same _ _) eiDelay_of_eiOk
theorem shape_res3C (s : State) : Shape .res3C s :=
  .registers _ _ _ _ _ rfl rfl id (fun _ => rfl) (fun _ => rfl) (control_same _ _) eiDelay_of_eiOk
theorem shape_res3D (s : State) : Shape .res3D s :=
  .registers _ _ _ _ _ rfl rfl id (fun _ => rfl) (fun _ => rfl) (control_same _ _) eiDelay_of_eiOk
theorem shape_res3E (s : State) : Shape .res3E s :=
  .registers _ _ _ _ _ rfl rfl id (fun _ => rfl) (fun _ => rfl) (control_same _ _) eiDelay_of_eiOk
theorem shape_res3H (s : State) : Shape .res3H s :=
  .registers _ _ _ _ _ rfl rfl id (fun _ => rfl) (fun _ => rfl) (control_same _ _) eiDelay_of_eiOk
theorem shape_res3L (s : State) : Shape .res3L s :=
  .registers _ _ _ _ _ rfl rfl id (fun _ => rfl) (fun _ => rfl) (control_same _ _) eiDelay_of_eiOk
theorem shape_res3AtHl (s : State) : Shape .res3AtHl s :=
  .store _ _ _ (store_outcome' s _ _ 2 16) rfl id
theorem shape_res3A (s : State) : Shape .res3A s :=
  .registers _ _ _ _ _ rfl rfl id (fun _ => rfl) (fun _ => rfl) (control_same _ _) eiDelay_of_eiOk
theorem shape_res4B (s : State) : Shape .res4B s :=
  .registers _ _ _ _ _ rfl rfl id (fun _ => rfl) (fun _ => rfl) (control_same _ _) eiDelay_of_eiOk
theorem shape_res4C (s : State) : Shape .res4C s :=
  .registers _ _ _ _ _ rfl rfl id (fun _ => rfl) (fun _ => rfl) (control_same _ _) eiDelay_of_eiOk
theorem shape_res4D (s : State) : Shape .res4D s :=
  .registers _ _ _ _ _ rfl rfl id (fun _ => rfl) (fun _ => rfl) (control_same _ _) eiDelay_of_eiOk
theorem shape_res4E (s : State) : Shape .res4E s :=
  .registers _ _ _ _ _ rfl rfl id (fun _ => rfl) (fun _ => rfl) (control_same _ _) eiDelay_of_eiOk
theorem shape_res4H (s : State) : Shape .res4H s :=
  .registers _ _ _ _ _ rfl rfl id (fun _ => rfl) (fun _ => rfl) (control_same _ _) eiDelay_of_eiOk
theorem shape_res4L (s : State) : Shape .res4L s :=
  .registers _ _ _ _ _ rfl rfl id (fun _ => rfl) (fun _ => rfl) (control_same _ _) eiDelay_of_eiOk
theorem shape_res4AtHl (s : State) : Shape .res4AtHl s :=
  .store _ _ _ (store_outcome' s _ _ 2 16) rfl id
theorem shape_res4A (s : State) : Shape .res4A s :=
  .registers _ _ _ _ _ rfl rfl id (fun _ => rfl) (fun _ => rfl) (control_same _ _) eiDelay_of_eiOk
theorem shape_res5B (s : State) : Shape .res5B s :=
  .registers _ _ _ _ _ rfl rfl id (fun _ => rfl) (fun _ => rfl) (control_same _ _) eiDelay_of_eiOk
theorem shape_res5C (s : State) : Shape .res5C s :=
  .registers _ _ _ _ _ rfl rfl id (fun _ => rfl) (fun _ => rfl) (control_same _ _) eiDelay_of_eiOk
theorem shape_res5D (s : State) : Shape .res5D s :=
  .registers _ _ _ _ _ rfl rfl id (fun _ => rfl) (fun _ => rfl) (control_same _ _) eiDelay_of_eiOk
theorem shape_res5E (s : State) : Shape .res5E s :=
  .registers _ _ _ _ _ rfl rfl id (fun _ => rfl) (fun _ => rfl) (control_same _ _) eiDelay_of_eiOk
theorem shape_res5H (s : State) : Shape .res5H s :=
  .registers _ _ _ _ _ rfl rfl id (fun _ => rfl) (fun _ => rfl) (control_same _ _) eiDelay_of_eiOk
theorem shape_res5L (s : State) : Shape .res5L s :=
  .registers _ _ _ _ _ rfl rfl id (fun _ => rfl) (fun _ => rfl) (control_same _ _) eiDelay_of_eiOk
theorem shape_res5AtHl (s : State) : Shape .res5AtHl s :=
  .store _ _ _ (store_outcome' s _ _ 2 16) rfl id
theorem shape_res5A (s : State) : Shape .res5A s :=
  .registers _ _ _ _ _ rfl rfl id (fun _ => rfl) (fun _ => rfl) (control_same _ _) eiDelay_of_eiOk
theorem shape_res6B (s : State) : Shape .res6B s :=
  .registers _ _ _ _ _ rfl rfl id (fun _ => rfl) (fun _ => rfl) (control_same _ _) eiDelay_of_eiOk
theorem shape_res6C (s : State) : Shape .res6C s :=
  .registers _ _ _ _ _ rfl rfl id (fun _ => rfl) (fun _ => rfl) (control_same _ _) eiDelay_of_eiOk
theorem shape_res6D (s : State) : Shape .res6D s :=
  .registers _ _ _ _ _ rfl rfl id (fun _ => rfl) (fun _ => rfl) (control_same _ _) eiDelay_of_eiOk
theorem shape_res6E (s : State) : Shape .res6E s :=
  .registers _ _ _ _ _ rfl rfl id (fun _ => rfl) (fun _ => rfl) (control_same _ _) eiDelay_of_eiOk
theorem shape_res6H (s : State) : Shape .res6H s :=
  .registers _ _ _ _ _ rfl rfl id (fun _ => rfl) (fun _ => rfl) (control_same _ _) eiDelay_of_eiOk
theorem shape_res6L (s : State) : Shape .res6L s :=
  .registers _ _ _ _ _ rfl rfl id (fun _ => rfl) (fun _ => rfl) (control_same _ _) eiDelay_of_eiOk
theorem shape_res6AtHl (s : State) : Shape .res6AtHl s :=
  .store _ _ _ (store_outcome' s _ _ 2 16) rfl id
theorem shape_res6A (s : State) : Shape .res6A s :=
  .registers _ _ _ _ _ rfl rfl id (fun _ => rfl) (fun _ => rfl) (control_same _ _) eiDelay_of_eiOk
theorem shape_res7B (s : State) : Shape .res7B s :=
  .registers _ _ _ _ _ rfl rfl id (fun _ => rfl) (fun _ => rfl) (control_same _ _) eiDelay_of_eiOk
theorem shape_res7C (s : State) : Shape .res7C s :=
  .registers _ _ _ _ _ rfl rfl id (fun _ => rfl) (fun _ => rfl) (control_same _ _) eiDelay_of_eiOk
theorem shape_res7D (s : State) : Shape .res7D s :=
  .registers _ _ _ _ _ rfl rfl id (fun _ => rfl) (fun _ => rfl) (control_same _ _) eiDelay_of_eiOk
theorem shape_res7E (s : State) : Shape .res7E s :=
  .registers _ _ _ _ _ rfl rfl id (fun _ => rfl) (fun _ => rfl) (control_same _ _) eiDelay_of_eiOk
theorem shape_res7H (s : State) : Shape .res7H s :=
  .registers _ _ _ _ _ rfl rfl id (fun _ => rfl) (fun _ => rfl) (control_same _ _) eiDelay_of_eiOk
theorem shape_res7L (s : State) : Shape .res7L s :=
  .registers _ _ _ _ _ rfl rfl id (fun _ => rfl) (fun _ => rfl) (control_same _ _) eiDelay_of_eiOk
theorem shape_res7AtHl (s : State) : Shape .res7AtHl s :=
  .store _ _ _ (store_outcome' s _ _ 2 16) rfl id
theorem shape_res7A (s : State) : Shape .res7A s :=
  .registers _ _ _ _ _ rfl rfl id (fun _ => rfl) (fun _ => rfl) (control_same _ _) eiDelay_of_eiOk
theorem shape_set0B (s : State) : Shape .set0B s :=
  .registers _ _ _ _ _ rfl rfl id (fun _ => rfl) (fun _ => rfl) (control_same _ _) eiDelay_of_eiOk
theorem shape_set0C (s : State) : Shape .set0C s :=
  .registers _ _ _ _ _ rfl rfl id (fun _ => rfl) (fun _ => rfl) (control_same _ _) eiDelay_of_eiOk
theorem shape_set0D (s : State) : Shape .set0D s :=
  .registers _ _ _ _ _ rfl rfl id (fun _ => rfl) (fun _ => rfl) (control_same _ _) eiDelay_of_eiOk
theorem shape_set0E (s : State) : Shape .set0E s :=
  .registers _ _ _ _ _ rfl rfl id (fun _ => rfl) (fun _ => rfl) (control_same _ _) eiDelay_of_eiOk
theorem shape_set0H (s : State) : Shape .set0H s :=
  .registers _ _ _ _ _ rfl rfl id (fun _ => rfl) (fun _ => rfl) (control_same _ _) eiDelay_of_eiOk
theorem shape_set0L (s : State) : Shape .set0L s :=
  .registers _ _ _ _ _ rfl rfl id (fun _ => rfl) (fun _ => rfl) (control_same _ _) eiDelay_of_eiOk
theorem shape_set0AtHl (s : State) : Shape .set0AtHl s :=
  .store _ _ _ (store_outcome' s _ _ 2 16) rfl id
theorem shape_set0A (s : State) : Shape .set0A s :=
  .registers _ _ _ _ _ rfl rfl id (fun _ => rfl) (fun _ => rfl) (control_same _ _) eiDelay_of_eiOk
theorem shape_set1B (s : State) : Shape .set1B s :=
  .registers _ _ _ _ _ rfl rfl id (fun _ => rfl) (fun _ => rfl) (control_same _ _) eiDelay_of_eiOk
theorem shape_set1C (s : State) : Shape .set1C s :=
  .registers _ _ _ _ _ rfl rfl id (fun _ => rfl) (fun _ => rfl) (control_same _ _) eiDelay_of_eiOk
theorem shape_set1D (s : State) : Shape .set1D s :=
  .registers _ _ _ _ _ rfl rfl id (fun _ => rfl) (fun _ => rfl) (control_same _ _) eiDelay_of_eiOk
theorem shape_set1E (s : State) : Shape .set1E s :=
  .registers _ _ _ _ _ rfl rfl id (fun _ => rfl) (fun _ => rfl) (control_same _ _) eiDelay_of_eiOk
theorem shape_set1H (s : State) : Shape .set1H s :=
  .registers _ _ _ _ _ rfl rfl id (fun _ => rfl) (fun _ => rfl) (control_same _ _) eiDelay_of_eiOk
theorem shape_set1L (s : State) : Shape .set1L s :=
  .registers _ _ _ _ _ rfl rfl id (fun _ => rfl) (fun _ => rfl) (control_same _ _) eiDelay_of_eiOk
theorem shape_set1AtHl (s : State) : Shape .set1AtHl s :=
  .store _ _ _ (store_outcome' s _ _ 2 16) rfl id
theorem shape_set1A (s : State) : Shape .set1A s :=
  .registers _ _ _ _ _ rfl rfl id (fun _ => rfl) (fun _ => rfl) (control_same _ _) eiDelay_of_eiOk
theorem shape_set2B (s : State) : Shape .set2B s :=
  .registers _ _ _ _ _ rfl rfl id (fun _ => rfl) (fun _ => rfl) (control_same _ _) eiDelay_of_eiOk
theorem shape_set2C (s : State) : Shape .set2C s :=
  .registers _ _ _ _ _ rfl rfl id (fun _ => rfl) (fun _ => rfl) (control_same _ _) eiDelay_of_eiOk
theorem shape_set2D (s : State) : Shape .set2D s :=
  .registers _ _ _ _ _ rfl rfl id (fun _ => rfl) (fun _ => rfl) (control_same _ _) eiDelay_of_eiOk
theorem shape_set2E (s : State) : Shape .set2E s :=
  .registers _ _ _ _ _ rfl rfl id (fun _ => rfl) (fun _ => rfl) (control_same _ _) eiDelay_of_eiOk
theorem shape_set2H (s : State) : Shape .set2H s :=
  .registers _ _ _ _ _ rfl rfl id (fun _ => rfl) (fun _ => rfl) (control_same _ _) eiDelay_of_eiOk
theorem shape_set2L (s : State) : Shape .set2L s :=
  .registers _ _ _ _ _ rfl rfl id (fun _ => rfl) (fun _ => rfl) (control_same _ _) eiDelay_of_eiOk
theorem shape_set2AtHl (s : State) : Shape .set2AtHl s :=
  .store _ _ _ (store_outcome' s _ _ 2 16) rfl id
theorem shape_set2A (s : State) : Shape .set2A s :=
  .registers _ _ _ _ _ rfl rfl id (fun _ => rfl) (fun _ => rfl) (control_same _ _) eiDelay_of_eiOk
theorem shape_set3B (s : State) : Shape .set3B s :=
  .registers _ _ _ _ _ rfl rfl id (fun _ => rfl) (fun _ => rfl) (control_same _ _) eiDelay_of_eiOk
theorem shape_set3C (s : State) : Shape .set3C s :=
  .registers _ _ _ _ _ rfl rfl id (fun _ => rfl) (fun _ => rfl) (control_same _ _) eiDelay_of_eiOk
theorem shape_set3D (s : State) : Shape .set3D s :=
  .registers _ _ _ _ _ rfl rfl id (fun _ => rfl) (fun _ => rfl) (control_same _ _) eiDelay_of_eiOk
theorem shape_set3E (s : State) : Shape .set3E s :=
  .registers _ _ _ _ _ rfl rfl id (fun _ => rfl) (fun _ => rfl) (control_same _ _) eiDelay_of_eiOk
theorem shape_set3H (s : State) : Shape .set3H s :=
  .registers _ _ _ _ _ rfl rfl id (fun _ => rfl) (fun _ => rfl) (control_same _ _) eiDelay_of_eiOk
theorem shape_set3L (s : State) : Shape .set3L s :=
  .registers _ _ _ _ _ rfl rfl id (fun _ => rfl) (fun _ => rfl) (control_same _ _) eiDelay_of_eiOk
theorem shape_set3AtHl (s : State) : Shape .set3AtHl s :=
  .store _ _ _ (store_outcome' s _ _ 2 16) rfl id
theorem shape_set3A (s : State) : Shape .set3A s :=
  .registers _ _ _ _ _ rfl rfl id (fun _ => rfl) (fun _ => rfl) (control_same _ _) eiDelay_of_eiOk
theorem shape_set4B (s : State) : Shape .set4B s :=
  .registers _ _ _ _ _ rfl rfl id (fun _ => rfl) (fun _ => rfl) (control_same _ _) eiDelay_of_eiOk
theorem shape_set4C (s : State) : Shape .set4C s :=
  .registers _ _ _ _ _ rfl rfl id (fun _ => rfl) (fun _ => rfl) (control_same _ _) eiDelay_of_eiOk
theorem shape_set4D (s : State) : Shape .set4D s :=
  .registers _ _ _ _ _ rfl rfl id (fun _ => rfl) (fun _ => rfl) (control_same _ _) eiDelay_of_eiOk
theorem shape_set4E (s : State) : Shape .set4E s :=
  .registers _ _ _ _ _ rfl rfl id (fun _ => rfl) (fun _ => rfl) (control_same _ _) eiDelay_of_eiOk
theorem shape_set4H (s : State) : Shape .set4H s :=
  .registers _ _ _ _ _ rfl rfl id (fun _ => rfl) (fun _ => rfl) (control_same _ _) eiDelay_of_eiOk
theorem shape_set4L (s : State) : Shape .set4L s :=
  .registers _ _ _ _ _ rfl rfl id (fun _ => rfl) (fun _ => rfl) (control_same _ _) eiDelay_of_eiOk
theorem shape_set4AtHl (s : State) : Shape .set4AtHl s :=
  .store _ _ _ (store_outcome' s _ _ 2 16) rfl id
theorem shape_set4A (s : State) : Shape .set4A s :=
  .registers _ _ _ _ _ rfl rfl id (fun _ => rfl) (fun _ => rfl) (control_same _ _) eiDelay_of_eiOk
theorem shape_set5B (s : State) : Shape .set5B s :=
  .registers _ _ _ _ _ rfl rfl id (fun _ => rfl) (fun _ => rfl) (control_same _ _) eiDelay_of_eiOk
theorem shape_set5C (s : State) : Shape .set5C s :=
  .registers _ _ _ _ _ rfl rfl id (fun _ => rfl) (fun _ => rfl) (control_same _ _) eiDelay_of_eiOk
theorem shape_set5D (s : State) : Shape .set5D s :=
  .registers _ _ _ _ _ rfl rfl id (fun _ => rfl) (fun _ => rfl) (control_same _ _) eiDelay_of_eiOk
theorem shape_set5E (s : State) : Shape .set5E s :=
  .registers _ _ _ _ _ rfl rfl id (fun _ => rfl) (fun _ => rfl) (control_same _ _) eiDelay_of_eiOk
theorem shape_set5H (s : State) : Shape .set5H s :=
  .registers _ _ _ _ _ rfl rfl id (fun _ => rfl) (fun _ => rfl) (control_same _ _) eiDelay_of_eiOk
theorem shape_set5L (s : State) : Shape .set5L s :=
  .registers _ _ _ _ _ rfl rfl id (fun _ => rfl) (fun _ => rfl) (control_same _ _) eiDelay_of_eiOk
theorem shape_set5AtHl (s : State) : Shape .set5AtHl s :=
  .store _ _ _ (store_outcome' s _ _ 2 16) rfl id
theorem shape_set5A (s : State) : Shape .set5A s :=
  .registers _ _ _ _ _ rfl rfl id (fun _ => rfl) (fun _ => rfl) (control_same _ _) eiDelay_of_eiOk
theorem shape_set6B (s : State) : Shape .set6B s :=
  .registers _ _ _ _ _ rfl rfl id (fun _ => rfl) (fun _ => rfl) (control_same _ _) eiDelay_of_eiOk
theorem shape_set6C (s : State) : Shape .set6C s :=
  .registers _ _ _ _ _ rfl rfl id (fun _ => rfl) (fun _ => rfl) (control_same _ _) eiDelay_of_eiOk
theorem shape_set6D (s : State) : Shape .set6D s :=
  .registers _ _ _ _ _ rfl rfl id (fun _ => rfl) (fun _ => rfl) (control_same _ _) eiDelay_of_eiOk
theorem shape_set6E (s : State) : Shape .set6E s :=
  .registers _ _ _ _ _ rfl rfl id (fun _ => rfl) (fun _ => rfl) (control_same _ _) eiDelay_of_eiOk
theorem shape_set6H (s : State) : Shape .set6H s :=
  .registers _ _ _ _ _ rfl rfl id (fun _ => rfl) (fun _ => rfl) (control_same _ _) eiDelay_of_eiOk
theorem shape_set6L (s : State) : Shape .set6L s :=
  .registers _ _ _ _ _ rfl rfl id (fun _ => rfl) (fun _ => rfl) (control_same _ _) eiDelay_of_eiOk
theorem shape_set6AtHl (s : State) : Shape .set6AtHl s :=
  .store _ _ _ (store_outcome' s _ _ 2 16) rfl id
theorem shape_set6A (s : State) : Shape .set6A s :=
  .registers _ _ _ _ _ rfl rfl id (fun _ => rfl) (fun _ => rfl) (control_same _ _) eiDelay_of_eiOk
theorem shape_set7B (s : State) : Shape .set7B s :=
  .registers _ _ _ _ _ rfl rfl id (fun _ => rfl) (fun _ => rfl) (control_same _ _) eiDelay_of_eiOk
theorem shape_set7C (s : State) : Shape .set7C s :=
  .registers _ _ _ _ _ rfl rfl id (fun _ => rfl) (fun _ => rfl) (control_same _ _) eiDelay_of_eiOk
theorem shape_set7D (s : State) : Shape .set7D s :=
  .registers _ _ _ _ _ rfl rfl id (fun _ => rfl) (fun _ => rfl) (control_same _ _) eiDelay_of_eiOk
theorem shape_set7E (s : State) : Shape .set7E s :=
  .registers _ _ _ _ _ rfl rfl id (fun _ => rfl) (fun _ => rfl) (control_same _ _) eiDelay_of_eiOk
theorem shape_set7H (s : State) : Shape .set7H s :=
  .registers _ _ _ _ _ rfl rfl id (fun _ => rfl) (fun _ => rfl) (control_same _ _) eiDelay_of_eiOk
theorem shape_set7L (s : State) : Shape .set7L s :=
  .registers _ _ _ _ _ rfl rfl id (fun _ => rfl) (fun _ => rfl) (control_same _ _) eiDelay_of_eiOk
theorem shape_set7AtHl (s : State) : Shape .set7AtHl s :=
  .store _ _ _ (store_outcome' s _ _ 2 16) rfl id
theorem shape_set7A (s : State) : Shape .set7A s :=
  .registers _ _ _ _ _ rfl rfl id (fun _ => rfl) (fun _ => rfl) (control_same _ _) eiDelay_of_eiOk

/-- Every instruction has one of the shapes. -/
theorem exec_shape (i : Instr) (s : State) : Shape i s := by
  cases i with
  | nop => exact shape_nop s
  | ldBcN16 nn => exact shape_ldBcN16 s nn
  | ldAtBcA => exact shape_ldAtBcA s
  | incBc => exact shape_incBc s
  | incB => exact shape_incB s
  | decB => exact shape_decB s
  | ldBN8 n => exact shape_ldBN8 s n
  | rlca => exact shape_rlca s
  | ldAtA16Sp a => exact shape_ldAtA16Sp s a
  | addHlBc => exact shape_addHlBc s
  | ldAAtBc => exact shape_ldAAtBc s
  | decBc => exact shape_decBc s
  | incC => exact shape_incC s
  | decC => exact shape_decC s
  | ldCN8 n => exact shape_ldCN8 s n
  | rrca => exact shape_rrca s
  | stop n => exact shape_stop s n
  | ldDeN16 nn => exact shape_ldDeN16 s nn
  | ldAtDeA => exact shape_ldAtDeA s
  | incDe => exact shape_incDe s
  | incD => exact shape_incD s
  | decD => exact shape_decD s
  | ldDN8 n => exact shape_ldDN8 s n
  | rla => exact shape_rla s
  | jrE8 e => exact shape_jrE8 s e
  | addHlDe => exact shape_addHlDe s
  | ldAAtDe => exact shape_ldAAtDe s
  | decDe => exact shape_decDe s
  | incE => exact shape_incE s
  | decE => exact shape_decE s
  | ldEN8 n => exact shape_ldEN8 s n
  | rra => exact shape_rra s
  | jrNzE8 e => exact shape_jrNzE8 s e
  | ldHlN16 nn => exact shape_ldHlN16 s nn
  | ldAtHliA => exact shape_ldAtHliA s
  | incHl => exact shape_incHl s
  | incH => exact shape_incH s
  | decH => exact shape_decH s
  | ldHN8 n => exact shape_ldHN8 s n
  | daa => exact shape_daa s
  | jrZE8 e => exact shape_jrZE8 s e
  | addHlHl => exact shape_addHlHl s
  | ldAAtHli => exact shape_ldAAtHli s
  | decHl => exact shape_decHl s
  | incL => exact shape_incL s
  | decL => exact shape_decL s
  | ldLN8 n => exact shape_ldLN8 s n
  | cpl => exact shape_cpl s
  | jrNcE8 e => exact shape_jrNcE8 s e
  | ldSpN16 nn => exact shape_ldSpN16 s nn
  | ldAtHldA => exact shape_ldAtHldA s
  | incSp => exact shape_incSp s
  | incAtHl => exact shape_incAtHl s
  | decAtHl => exact shape_decAtHl s
  | ldAtHlN8 n => exact shape_ldAtHlN8 s n
  | scf => exact shape_scf s
  | jrCE8 e => exact shape_jrCE8 s e
  | addHlSp => exact shape_addHlSp s
  | ldAAtHld => exact shape_ldAAtHld s
  | decSp => exact shape_decSp s
  | incA => exact shape_incA s
  | decA => exact shape_decA s
  | ldAN8 n => exact shape_ldAN8 s n
  | ccf => exact shape_ccf s
  | ldBB => exact shape_ldBB s
  | ldBC => exact shape_ldBC s
  | ldBD => exact shape_ldBD s
  | ldBE => exact shape_ldBE s
  | ldBH => exact shape_ldBH s
  | ldBL => exact shape_ldBL s
  | ldBAtHl => exact shape_ldBAtHl s
  | ldBA => exact shape_ldBA s
  | ldCB => exact shape_ldCB s
  | ldCC => exact shape_ldCC s
  | ldCD => exact shape_ldCD s
  | ldCE => exact shape_ldCE s
  | ldCH => exact shape_ldCH s
  | ldCL => exact shape_ldCL s
  | ldCAtHl => exact shape_ldCAtHl s
  | ldCA => exact shape_ldCA s
  | ldDB => exact shape_ldDB s
  | ldDC => exact shape_ldDC s
  | ldDD => exact shape_ldDD s
  | ldDE => exact shape_ldDE s
  | ldDH => exact shape_ldDH s
  | ldDL => exact shape_ldDL s
  | ldDAtHl => exact shape_ldDAtHl s
  | ldDA => exact shape_ldDA s
  | ldEB => exact shape_ldEB s
  | ldEC => exact shape_ldEC s
  | ldED => exact shape_ldED s
  | ldEE => exact shape_ldEE s
  | ldEH => exact shape_ldEH s
  | ldEL => exact shape_ldEL s
  | ldEAtHl => exact shape_ldEAtHl s
  | ldEA => exact shape_ldEA s
  | ldHB => exact shape_ldHB s
  | ldHC => exact shape_ldHC s
  | ldHD => exact shape_ldHD s
  | ldHE => exact shape_ldHE s
  | ldHH => exact shape_ldHH s
  | ldHL => exact shape_ldHL s
  | ldHAtHl => exact shape_ldHAtHl s
  | ldHA => exact shape_ldHA s
  | ldLB => exact shape_ldLB s
  | ldLC => exact shape_ldLC s
  | ldLD => exact shape_ldLD s
  | ldLE => exact shape_ldLE s
  | ldLH => exact shape_ldLH s
  | ldLL => exact shape_ldLL s
  | ldLAtHl => exact shape_ldLAtHl s
  | ldLA => exact shape_ldLA s
  | ldAtHlB => exact shape_ldAtHlB s
  | ldAtHlC => exact shape_ldAtHlC s
  | ldAtHlD => exact shape_ldAtHlD s
  | ldAtHlE => exact shape_ldAtHlE s
  | ldAtHlH => exact shape_ldAtHlH s
  | ldAtHlL => exact shape_ldAtHlL s
  | halt => exact shape_halt s
  | ldAtHlA => exact shape_ldAtHlA s
  | ldAB => exact shape_ldAB s
  | ldAC => exact shape_ldAC s
  | ldAD => exact shape_ldAD s
  | ldAE => exact shape_ldAE s
  | ldAH => exact shape_ldAH s
  | ldAL => exact shape_ldAL s
  | ldAAtHl => exact shape_ldAAtHl s
  | ldAA => exact shape_ldAA s
  | addAB => exact shape_addAB s
  | addAC => exact shape_addAC s
  | addAD => exact shape_addAD s
  | addAE => exact shape_addAE s
  | addAH => exact shape_addAH s
  | addAL => exact shape_addAL s
  | addAAtHl => exact shape_addAAtHl s
  | addAA => exact shape_addAA s
  | adcAB => exact shape_adcAB s
  | adcAC => exact shape_adcAC s
  | adcAD => exact shape_adcAD s
  | adcAE => exact shape_adcAE s
  | adcAH => exact shape_adcAH s
  | adcAL => exact shape_adcAL s
  | adcAAtHl => exact shape_adcAAtHl s
  | adcAA => exact shape_adcAA s
  | subB => exact shape_subB s
  | subC => exact shape_subC s
  | subD => exact shape_subD s
  | subE => exact shape_subE s
  | subH => exact shape_subH s
  | subL => exact shape_subL s
  | subAtHl => exact shape_subAtHl s
  | subA => exact shape_subA s
  | sbcAB => exact shape_sbcAB s
  | sbcAC => exact shape_sbcAC s
  | sbcAD => exact shape_sbcAD s
  | sbcAE => exact shape_sbcAE s
  | sbcAH => exact shape_sbcAH s
  | sbcAL => exact shape_sbcAL s
  | sbcAAtHl => exact shape_sbcAAtHl s
  | sbcAA => exact shape_sbcAA s
  | andB => exact shape_andB s
  | andC => exact shape_andC s
  | andD => exact shape_andD s
  | andE => exact shape_andE s
  | andH => exact shape_andH s
  | andL => exact shape_andL s
  | andAtHl => exact shape_andAtHl s
  | andA => exact shape_andA s
  | xorB => exact shape_xorB s
  | xorC => exact shape_xorC s
  | xorD => exact shape_xorD s
  | xorE => exact shape_xorE s
  | xorH => exact shape_xorH s
  | xorL => exact shape_xorL s
  | xorAtHl => exact shape_xorAtHl s
  | xorA => exact shape_xorA s
  | orB => exact shape_orB s
  | orC => exact shape_orC s
  | orD => exact shape_orD s
  | orE => exact shape_orE s
  | orH => exact shape_orH s
  | orL => exact shape_orL s
  | orAtHl => exact shape_orAtHl s
  | orA => exact shape_orA s
  | cpB => exact shape_cpB s
  | cpC => exact shape_cpC s
  | cpD => exact shape_cpD s
  | cpE => exact shape_cpE s
  | cpH => exact shape_cpH s
  | cpL => exact shape_cpL s
  | cpAtHl => exact shape_cpAtHl s
  | cpA => exact shape_cpA s
  | retNz => exact shape_retNz s
  | popBc => exact shape_popBc s
  | jpNzA16 a => exact shape_jpNzA16 s a
  | jpA16 a => exact shape_jpA16 s a
  | callNzA16 a => exact shape_callNzA16 s a
  | pushBc => exact shape_pushBc s
  | addAN8 n => exact shape_addAN8 s n
  | rst00 => exact shape_rst00 s
  | retZ => exact shape_retZ s
  | ret => exact shape_ret s
  | jpZA16 a => exact shape_jpZA16 s a
  | callZA16 a => exact shape_callZA16 s a
  | callA16 a => exact shape_callA16 s a
  | adcAN8 n => exact shape_adcAN8 s n
  | rst08 => exact shape_rst08 s
  | retNc => exact shape_retNc s
  | popDe => exact shape_popDe s
  | jpNcA16 a => exact shape_jpNcA16 s a
  | undefinedD3 => exact shape_undefinedD3 s
  | callNcA16 a => exact shape_callNcA16 s a
  | pushDe => exact shape_pushDe s
  | subN8 n => exact shape_subN8 s n
  | rst10 => exact shape_rst10 s
  | retC => exact shape_retC s
  | reti => exact shape_reti s
  | jpCA16 a => exact shape_jpCA16 s a
  | undefinedDB => exact shape_undefinedDB s
  | callCA16 a => exact shape_callCA16 s a
  | undefinedDD => exact shape_undefinedDD s
  | sbcAN8 n => exact shape_sbcAN8 s n
  | rst18 => exact shape_rst18 s
  | ldhAtA8A a => exact shape_ldhAtA8A s a
  | popHl => exact shape_popHl s
  | ldAtCA => exact shape_ldAtCA s
  | undefinedE3 => exact shape_undefinedE3 s
  | undefinedE4 => exact shape_undefinedE4 s
  | pushHl => exact shape_pushHl s
  | andN8 n => exact shape_andN8 s n
  | rst20 => exact shape_rst20 s
  | addSpE8 e => exact shape_addSpE8 s e
  | jpHl => exact shape_jpHl s
  | ldAtA16A a => exact shape_ldAtA16A s a
  | undefinedEB => exact shape_undefinedEB s
  | undefinedEC => exact shape_undefinedEC s
  | undefinedED => exact shape_undefinedED s
  | xorN8 n => exact shape_xorN8 s n
  | rst28 => exact shape_rst28 s
  | ldhAAtA8 a => exact shape_ldhAAtA8 s a
  | popAf => exact shape_popAf s
  | ldAAtC => exact shape_ldAAtC s
  | di => exact shape_di s
  | undefinedF4 => exact shape_undefinedF4 s
  | pushAf => exact shape_pushAf s
  | orN8 n => exact shape_orN8 s n
  | rst30 => exact shape_rst30 s
  | ldHlSpE8 e => exact shape_ldHlSpE8 s e
  | ldSpHl => exact shape_ldSpHl s
  | ldAAtA16 a => exact shape_ldAAtA16 s a
  | ei => exact shape_ei s
  | undefinedFC => exact shape_undefinedFC s
  | undefinedFD => exact shape_undefinedFD s
  | cpN8 n => exact shape_cpN8 s n
  | rst38 => exact shape_rst38 s
  | rlcB => exact shape_rlcB s
  | rlcC => exact shape_rlcC s
  | rlcD => exact shape_rlcD s
  | rlcE => exact shape_rlcE s
  | rlcH => exact shape_rlcH s
  | rlcL => exact shape_rlcL s
  | rlcAtHl => exact shape_rlcAtHl s
  | rlcA => exact shape_rlcA s
  | rrcB => exact shape_rrcB s
  | rrcC => exact shape_rrcC s
  | rrcD => exact shape_rrcD s
  | rrcE => exact shape_rrcE s
  | rrcH => exact shape_rrcH s
  | rrcL => exact shape_rrcL s
  | rrcAtHl => exact shape_rrcAtHl s
  | rrcA => exact shape_rrcA s
  | rlB => exact shape_rlB s
  | rlC => exact shape_rlC s
  | rlD => exact shape_rlD s
  | rlE => exact shape_rlE s
  | rlH => exact shape_rlH s
  | rlL => exact shape_rlL s
  | rlAtHl => exact shape_rlAtHl s
  | rlA => exact shape_rlA s
  | rrB => exact shape_rrB s
  | rrC => exact shape_rrC s
  | rrD => exact shape_rrD s
  | rrE => exact shape_rrE s
  | rrH => exact shape_rrH s
  | rrL => exact shape_rrL s
  | rrAtHl => exact shape_rrAtHl s
  | rrA => exact shape_rrA s
  | slaB => exact shape_slaB s
  | slaC => exact shape_slaC s
  | slaD => exact shape_slaD s
  | slaE => exact shape_slaE s
  | slaH => exact shape_slaH s
  | slaL => exact shape_slaL s
  | slaAtHl => exact shape_slaAtHl s
  | slaA => exact shape_slaA s
  | sraB => exact shape_sraB s
  | sraC => exact shape_sraC s
  | sraD => exact shape_sraD s
  | sraE => exact shape_sraE s
  | sraH => exact shape_sraH s
  | sraL => exact shape_sraL s
  | sraAtHl => exact shape_sraAtHl s
  | sraA => exact shape_sraA s
  | swapB => exact shape_swapB s
  | swapC => exact shape_swapC s
  | swapD => exact shape_swapD s
  | swapE => exact shape_swapE s
  | swapH => exact shape_swapH s
  | swapL => exact shape_swapL s
  | swapAtHl => exact shape_swapAtHl s
  | swapA => exact shape_swapA s
  | srlB => exact shape_srlB s
  | srlC => exact shape_srlC s
  | srlD => exact shape_srlD s
  | srlE => exact shape_srlE s
  | srlH => exact shape_srlH s
  | srlL => exact shape_srlL s
  | srlAtHl => exact shape_srlAtHl s
  | srlA => exact shape_srlA s
  | bit0B => exact shape_bit0B s
  | bit0C => exact shape_bit0C s
  | bit0D => exact shape_bit0D s
  | bit0E => exact shape_bit0E s
  | bit0H => exact shape_bit0H s
  | bit0L => exact shape_bit0L s
  | bit0AtHl => exact shape_bit0AtHl s
  | bit0A => exact shape_bit0A s
  | bit1B => exact shape_bit1B s
  | bit1C => exact shape_bit1C s
  | bit1D => exact shape_bit1D s
  | bit1E => exact shape_bit1E s
  | bit1H => exact shape_bit1H s
  | bit1L => exact shape_bit1L s
  | bit1AtHl => exact shape_bit1AtHl s
  | bit1A => exact shape_bit1A s
  | bit2B => exact shape_bit2B s
  | bit2C => exact shape_bit2C s
  | bit2D => exact shape_bit2D s
  | bit2E => exact shape_bit2E s
  | bit2H => exact shape_bit2H s
  | bit2L => exact shape_bit2L s
  | bit2AtHl => exact shape_bit2AtHl s
  | bit2A => exact shape_bit2A s
  | bit3B => exact shape_bit3B s
  | bit3C => exact shape_bit3C s
  | bit3D => exact shape_bit3D s
  | bit3E => exact shape_bit3E s
  | bit3H => exact shape_bit3H s
  | bit3L => exact shape_bit3L s
  | bit3AtHl => exact shape_bit3AtHl s
  | bit3A => exact shape_bit3A s
  | bit4B => exact shape_bit4B s
  | bit4C => exact shape_bit4C s
  | bit4D => exact shape_bit4D s
  | bit4E => exact shape_bit4E s
  | bit4H => exact shape_bit4H s
  | bit4L => exact shape_bit4L s
  | bit4AtHl => exact shape_bit4AtHl s
  | bit4A => exact shape_bit4A s
  | bit5B => exact shape_bit5B s
  | bit5C => exact shape_bit5C s
  | bit5D => exact shape_bit5D s
  | bit5E => exact shape_bit5E s
  | bit5H => exact shape_bit5H s
  | bit5L => exact shape_bit5L s
  | bit5AtHl => exact shape_bit5AtHl s
  | bit5A => exact shape_bit5A s
  | bit6B => exact shape_bit6B s
  | bit6C => exact shape_bit6C s
  | bit6D => exact shape_bit6D s
  | bit6E => exact shape_bit6E s
  | bit6H => exact shape_bit6H s
  | bit6L => exact shape_bit6L s
  | bit6AtHl => exact shape_bit6AtHl s
  | bit6A => exact shape_bit6A s
  | bit7B => exact shape_bit7B s
  | bit7C => exact shape_bit7C s
  | bit7D => exact shape_bit7D s
  | bit7E => exact shape_bit7E s
  | bit7H => exact shape_bit7H s
  | bit7L => exact shape_bit7L s
  | bit7AtHl => exact shape_bit7AtHl s
  | bit7A => exact shape_bit7A s
  | res0B => exact shape_res0B s
  | res0C => exact shape_res0C s
  | res0D => exact shape_res0D s
  | res0E => exact shape_res0E s
  | res0H => exact shape_res0H s
  | res0L => exact shape_res0L s
  | res0AtHl => exact shape_res0AtHl s
  | res0A => exact shape_res0A s
  | res1B => exact shape_res1B s
  | res1C => exact shape_res1C s
  | res1D => exact shape_res1D s
  | res1E => exact shape_res1E s
  | res1H => exact shape_res1H s
  | res1L => exact shape_res1L s
  | res1AtHl => exact shape_res1AtHl s
  | res1A => exact shape_res1A s
  | res2B => exact shape_res2B s
  | res2C => exact shape_res2C s
  | res2D => exact shape_res2D s
  | res2E => exact shape_res2E s
  | res2H => exact shape_res2H s
  | res2L => exact shape_res2L s
  | res2AtHl => exact shape_res2AtHl s
  | res2A => exact shape_res2A s
  | res3B => exact shape_res3B s
  | res3C => exact shape_res3C s
  | res3D => exact shape_res3D s
  | res3E => exact shape_res3E s
  | res3H => exact shape_res3H s
  | res3L => exact shape_res3L s
  | res3AtHl => exact shape_res3AtHl s
  | res3A => exact shape_res3A s
  | res4B => exact shape_res4B s
  | res4C => exact shape_res4C s
  | res4D => exact shape_res4D s
  | res4E => exact shape_res4E s
  | res4H => exact shape_res4H s
  | res4L => exact shape_res4L s
  | res4AtHl => exact shape_res4AtHl s
  | res4A => exact shape_res4A s
  | res5B => exact shape_res5B s
  | res5C => exact shape_res5C s
  | res5D => exact shape_res5D s
  | res5E => exact shape_res5E s
  | res5H => exact shape_res5H s
  | res5L => exact shape_res5L s
  | res5AtHl => exact shape_res5AtHl s
  | res5A => exact shape_res5A s
  | res6B => exact shape_res6B s
  | res6C => exact shape_res6C s
  | res6D => exact shape_res6D s
  | res6E => exact shape_res6E s
  | res6H => exact shape_res6H s
  | res6L => exact shape_res6L s
  | res6AtHl => exact shape_res6AtHl s
  | res6A => exact shape_res6A s
  | res7B => exact shape_res7B s
  | res7C => exact shape_res7C s
  | res7D => exact shape_res7D s
  | res7E => exact shape_res7E s
  | res7H => exact shape_res7H s
  | res7L => exact shape_res7L s
  | res7AtHl => exact shape_res7AtHl s
  | res7A => exact shape_res7A s
  | set0B => exact shape_set0B s
  | set0C => exact shape_set0C s
  | set0D => exact shape_set0D s
  | set0E => exact shape_set0E s
  | set0H => exact shape_set0H s
  | set0L => exact shape_set0L s
  | set0AtHl => exact shape_set0AtHl s
  | set0A => exact shape_set0A s
  | set1B => exact shape_set1B s
  | set1C => exact shape_set1C s
  | set1D => exact shape_set1D s
  | set1E => exact shape_set1E s
  | set1H => exact shape_set1H s
  | set1L => exact shape_set1L s
  | set1AtHl => exact shape_set1AtHl s
  | set1A => exact shape_set1A s
  | set2B => exact shape_set2B s
  | set2C => exact shape_set2C s
  | set2D => exact shape_set2D s
  | set2E => exact shape_set2E s
  | set2H => exact shape_set2H s
  | set2L => exact shape_set2L s
  | set2AtHl => exact shape_set2AtHl s
  | set2A => exact shape_set2A s
  | set3B => exact shape_set3B s
  | set3C => exact shape_set3C s
  | set3D => exact shape_set3D s
  | set3E => exact shape_set3E s
  | set3H => exact shape_set3H s
  | set3L => exact shape_set3L s
  | set3AtHl => exact shape_set3AtHl s
  | set3A => exact shape_set3A s
  | set4B => exact shape_set4B s
  | set4C => exact shape_set4C s
  | set4D => exact shape_set4D s
  | set4E => exact shape_set4E s
  | set4H => exact shape_set4H s
  | set4L => exact shape_set4L s
  | set4AtHl => exact shape_set4AtHl s
  | set4A => exact shape_set4A s
  | set5B => exact shape_set5B s
  | set5C => exact shape_set5C s
  | set5D => exact shape_set5D s
  | set5E => exact shape_set5E s
  | set5H => exact shape_set5H s
  | set5L => exact shape_set5L s
  | set5AtHl => exact shape_set5AtHl s
  | set5A => exact shape_set5A s
  | set6B => exact shape_set6B s
  | set6C => exact shape_set6C s
  | set6D => exact shape_set6D s
  | set6E => exact shape_set6E s
  | set6H => exact shape_set6H s
  | set6L => exact shape_set6L s
  | set6AtHl => exact shape_set6AtHl s
  | set6A => exact shape_set6A s
  | set7B => exact shape_set7B s
  | set7C => exact shape_set7C s
  | set7D => exact shape_set7D s
  | set7E => exact shape_set7E s
  | set7H => exact shape_set7H s
  | set7L => exact shape_set7L s
  | set7AtHl => exact shape_set7AtHl s
  | set7A => exact shape_set7A s

end Sys2Proof.Machine
end

