-- ==== Sys2Proof/Laws/Step.lean ====
section
/-! SUPPORT. The step: its five cases, once for all. -/

namespace Sys2Proof.Machine

/-- A latched fault is returned, with the state as it is. -/
theorem step_latched {s : State} {r : FaultRecord} (h : s.fault = some r) :
    step s = .fault (Fault.ofRecord r s) := by
  unfold step systemStep
  split
  · next r' h' => rw [h] at h'; cases h'; rfl
  · next h' => rw [h] at h'; cases h'

/-- A halted core with nothing pending waits. -/
theorem step_waits {s : State} (hf : s.fault = none) (hh : s.halted = true) (hp : s.pending = 0) :
    step s = .next (sched 4 { s with cycles := 4 }) := by
  unfold step systemStep
  split
  · next h => rw [hf] at h; cases h
  · rw [if_pos (by simp [hh, hp])]

/-- A boundary that takes an interrupt. -/
theorem step_interrupts {s : State} (hf : s.fault = none) (hi : s.ime = true) (hp : s.pending ≠ 0) :
    step s = mapNext (fun t => sched t.cycles t) { s with halted := false }.interrupt := by
  unfold step systemStep
  split
  · next h => rw [hf] at h; cases h
  · rw [if_neg (by simpa using fun _ => hp)]
    refine if_pos ?_
    change (s.ime && s.pending != 0) = true
    simpa [hi] using hp

/-- A boundary that runs the instruction at PC. -/
theorem step_executes {s : State} (hf : s.fault = none) (hh : ¬(s.halted = true ∧ s.pending = 0))
    (hi : ¬(s.ime = true ∧ s.pending ≠ 0)) :
    step s = mapNext (fun t => sched t.cycles t.countdown) (exec s.fetch { s with halted := false }) := by
  unfold step systemStep
  split
  · next h => rw [hf] at h; cases h
  · rw [if_neg (by simpa using hh)]
    refine if_neg ?_
    change ¬(s.ime && s.pending != 0) = true
    simpa using hi

/-- Whatever holds in each case of a step holds of the step. -/
theorem step_cases {s : State} {P : Out → Prop}
    (latched : ∀ r, s.fault = some r → P (.fault (Fault.ofRecord r s)))
    (waits : s.fault = none → s.halted = true → s.pending = 0 → P (.next (sched 4 { s with cycles := 4 })))
    (interrupts : s.fault = none → s.ime = true → s.pending ≠ 0 →
      P (mapNext (fun t => sched t.cycles t) { s with halted := false }.interrupt))
    (executes : s.fault = none → ¬(s.halted = true ∧ s.pending = 0) → ¬(s.ime = true ∧ s.pending ≠ 0) →
      P (mapNext (fun t => sched t.cycles t.countdown) (exec s.fetch { s with halted := false }))) :
    P (step s) := by
  cases hf : s.fault with
  | some r => rw [step_latched hf]; exact latched r hf
  | none =>
    by_cases hh : s.halted = true ∧ s.pending = 0
    · rw [step_waits hf hh.1 hh.2]; exact waits hf hh.1 hh.2
    · by_cases hi : s.ime = true ∧ s.pending ≠ 0
      · rw [step_interrupts hf hi.1 hi.2]; exact interrupts hf hi.1 hi.2
      · rw [step_executes hf hh hi]; exact executes hf hh hi

end Sys2Proof.Machine
end

