-- ==== Sys2Proof/Machine/HostInterface.lean ====
section
/-! DEFINITION. What the host's collaborators read of the core, without side effects (60_exceptions.md R479, R480), and the
tile format the renderer uses (20_memory.md R127). -/

namespace Sys2Proof.Machine

/-- The diagnostic collaborator's view (R479): the mnemonic of the instruction at PC and its raw bytes. -/
def State.diagnose (s : State) : String × List Byte :=
  let d := s.fetch.descriptor
  (d.mnemonic, [s.read s.pc, s.read (s.pc + 1), s.read (s.pc + 2)].take d.length)

/-- The registers the renderer reads besides VRAM and OAM (R480): LCDC, SCY, SCX, BGP, OBP0, OBP1, WY, WX. -/
def rendererRegisters : List Word := [0xFF40, 0xFF42, 0xFF43, 0xFF47, 0xFF48, 0xFF49, 0xFF4A, 0xFF4B]

/-- The renderer's read of VRAM, OAM or one of its registers; nothing else is offered to it (R480). -/
def State.rendererRead (s : State) (a : Word) : Option Byte :=
  match region s.overlay a with
  | .vram | .oam => some (s.read a)
  | .io => if a ∈ rendererRegisters then some (s.read a) else none
  | .boot | .rom | .eram | .wram | .echo | .unusable | .hram | .ie => none

/-- The colour index of pixel `x`, 0 the leftmost, of a tile row stored as the bytes `lo` then `hi`:
`hi[7 - x] ++ lo[7 - x]` (R127). -/
def tileColour (lo hi : Byte) (x : Fin 8) : BitVec 2 :=
  BitVec.ofBool (hi.getLsbD (7 - x.val)) ++ BitVec.ofBool (lo.getLsbD (7 - x.val))

/-- A palette's shade of a colour index: bits `2 i + 1` and `2 i` (10_state.md R60). -/
def paletteShade (palette : Byte) (i : BitVec 2) : BitVec 2 := palette.extractLsb' (2 * i.toNat) 2

end Sys2Proof.Machine
end

