-- ==== Sys2Proof/Machine/IoMap.lean ====
section
/-! DEFINITION. The I/O registers by name: the index of 10_state.md R47 and the field layouts of R48 to R63.
A field has no effect on this core but where the bus rules give one (R47), so the layouts serve the readers of a state. -/

namespace Sys2Proof.Machine

/-- The named I/O registers (R47); `wave i` is byte `i` of the wave pattern RAM. The other bytes of
0xFF00-0xFF7F have no name and are storage (R64). -/
inductive IoReg where
  | p1 | sb | sc | div | tima | tma | tac | iflag | nr10 | nr11 | nr12 | nr13 | nr14 | nr21 | nr22
  | nr23 | nr24 | nr30 | nr31 | nr32 | nr33 | nr34 | nr41 | nr42 | nr43 | nr44 | nr50 | nr51 | nr52
  | lcdc | stat | scy | scx | ly | lyc | dma | bgp | obp0 | obp1 | wy | wx | boot
  | wave (i : Fin 16)
  | ie
deriving DecidableEq, Repr

/-- A register's address (R47). -/
def IoReg.addr : IoReg → Word
  | .p1 => 0xFF00
  | .sb => 0xFF01
  | .sc => 0xFF02
  | .div => 0xFF04
  | .tima => 0xFF05
  | .tma => 0xFF06
  | .tac => 0xFF07
  | .iflag => 0xFF0F
  | .nr10 => 0xFF10
  | .nr11 => 0xFF11
  | .nr12 => 0xFF12
  | .nr13 => 0xFF13
  | .nr14 => 0xFF14
  | .nr21 => 0xFF16
  | .nr22 => 0xFF17
  | .nr23 => 0xFF18
  | .nr24 => 0xFF19
  | .nr30 => 0xFF1A
  | .nr31 => 0xFF1B
  | .nr32 => 0xFF1C
  | .nr33 => 0xFF1D
  | .nr34 => 0xFF1E
  | .nr41 => 0xFF20
  | .nr42 => 0xFF21
  | .nr43 => 0xFF22
  | .nr44 => 0xFF23
  | .nr50 => 0xFF24
  | .nr51 => 0xFF25
  | .nr52 => 0xFF26
  | .lcdc => 0xFF40
  | .stat => 0xFF41
  | .scy => 0xFF42
  | .scx => 0xFF43
  | .ly => 0xFF44
  | .lyc => 0xFF45
  | .dma => 0xFF46
  | .bgp => 0xFF47
  | .obp0 => 0xFF48
  | .obp1 => 0xFF49
  | .wy => 0xFF4A
  | .wx => 0xFF4B
  | .boot => 0xFF50
  | .wave i => 0xFF30 + BitVec.ofNat 16 i.val
  | .ie => 0xFFFF

/-- The `access` column of R47. -/
inductive IoAccess where
  /-- `RW`: storage. -/
  | storage
  /-- `RW*`: storage with a special read or write. -/
  | special
  /-- `RO`: CPU writes are ignored. -/
  | readOnly
deriving DecidableEq, Repr

/-- A register's access (R47). -/
def IoReg.access (r : IoReg) : IoAccess :=
  match r with
  | .div | .iflag | .stat | .dma | .boot => .special
  | .ly => .readOnly
  | _ => .storage

/-- A field of a register: bits `hi` down to `lo`. -/
structure IoField where
  reg : IoReg
  name : String
  hi : Nat
  lo : Nat
deriving DecidableEq, Repr

/-- P1, SB, SC, DIV, TIMA, TMA, TAC (R48 to R50). -/
def serialTimerFields : List IoField :=
  [ ⟨.p1, "select action buttons", 5, 5⟩,
    ⟨.p1, "select direction keys", 4, 4⟩,
    ⟨.p1, "key inputs", 3, 0⟩,
    ⟨.sb, "serial data", 7, 0⟩,
    ⟨.sc, "transfer start", 7, 7⟩,
    ⟨.sc, "clock select", 0, 0⟩,
    ⟨.div, "divider", 7, 0⟩,
    ⟨.tima, "timer counter", 7, 0⟩,
    ⟨.tma, "timer reload value", 7, 0⟩,
    ⟨.tac, "timer enable", 2, 2⟩,
    ⟨.tac, "clock select", 1, 0⟩ ]

/-- IF and IE (R51). -/
def interruptFields : List IoField :=
  [ ⟨.iflag, "VBlank", 0, 0⟩,
    ⟨.iflag, "LCD STAT", 1, 1⟩,
    ⟨.iflag, "Timer", 2, 2⟩,
    ⟨.iflag, "Serial", 3, 3⟩,
    ⟨.iflag, "Joypad", 4, 4⟩,
    ⟨.ie, "VBlank", 0, 0⟩,
    ⟨.ie, "LCD STAT", 1, 1⟩,
    ⟨.ie, "Timer", 2, 2⟩,
    ⟨.ie, "Serial", 3, 3⟩,
    ⟨.ie, "Joypad", 4, 4⟩ ]

/-- Sound channel 1 (R52). -/
def channel1Fields : List IoField :=
  [ ⟨.nr10, "sweep pace", 6, 4⟩,
    ⟨.nr10, "sweep direction", 3, 3⟩,
    ⟨.nr10, "sweep step", 2, 0⟩,
    ⟨.nr11, "wave duty", 7, 6⟩,
    ⟨.nr11, "initial length timer", 5, 0⟩,
    ⟨.nr12, "initial volume", 7, 4⟩,
    ⟨.nr12, "envelope direction", 3, 3⟩,
    ⟨.nr12, "envelope sweep pace", 2, 0⟩,
    ⟨.nr13, "period 7:0", 7, 0⟩,
    ⟨.nr14, "trigger", 7, 7⟩,
    ⟨.nr14, "length enable", 6, 6⟩,
    ⟨.nr14, "period 10:8", 2, 0⟩ ]

/-- Sound channel 2 (R53). -/
def channel2Fields : List IoField :=
  [ ⟨.nr21, "wave duty", 7, 6⟩,
    ⟨.nr21, "initial length timer", 5, 0⟩,
    ⟨.nr22, "initial volume", 7, 4⟩,
    ⟨.nr22, "envelope direction", 3, 3⟩,
    ⟨.nr22, "envelope sweep pace", 2, 0⟩,
    ⟨.nr23, "period 7:0", 7, 0⟩,
    ⟨.nr24, "trigger", 7, 7⟩,
    ⟨.nr24, "length enable", 6, 6⟩,
    ⟨.nr24, "period 10:8", 2, 0⟩ ]

/-- Sound channel 3 (R54). -/
def channel3Fields : List IoField :=
  [ ⟨.nr30, "DAC on", 7, 7⟩,
    ⟨.nr31, "length timer", 7, 0⟩,
    ⟨.nr32, "output level", 6, 5⟩,
    ⟨.nr33, "period 7:0", 7, 0⟩,
    ⟨.nr34, "trigger", 7, 7⟩,
    ⟨.nr34, "length enable", 6, 6⟩,
    ⟨.nr34, "period 10:8", 2, 0⟩ ]

/-- Sound channel 4 (R55). -/
def channel4Fields : List IoField :=
  [ ⟨.nr41, "initial length timer", 5, 0⟩,
    ⟨.nr42, "initial volume", 7, 4⟩,
    ⟨.nr42, "envelope direction", 3, 3⟩,
    ⟨.nr42, "sweep pace", 2, 0⟩,
    ⟨.nr43, "clock shift", 7, 4⟩,
    ⟨.nr43, "LFSR width", 3, 3⟩,
    ⟨.nr43, "clock divider", 2, 0⟩,
    ⟨.nr44, "trigger", 7, 7⟩,
    ⟨.nr44, "length enable", 6, 6⟩ ]

/-- Sound control (R56). -/
def soundControlFields : List IoField :=
  [ ⟨.nr50, "VIN to left", 7, 7⟩,
    ⟨.nr50, "left volume", 6, 4⟩,
    ⟨.nr50, "VIN to right", 3, 3⟩,
    ⟨.nr50, "right volume", 2, 0⟩,
    ⟨.nr51, "channel 4 to left", 7, 7⟩,
    ⟨.nr51, "channel 3 to left", 6, 6⟩,
    ⟨.nr51, "channel 2 to left", 5, 5⟩,
    ⟨.nr51, "channel 1 to left", 4, 4⟩,
    ⟨.nr51, "channel 4 to right", 3, 3⟩,
    ⟨.nr51, "channel 3 to right", 2, 2⟩,
    ⟨.nr51, "channel 2 to right", 1, 1⟩,
    ⟨.nr51, "channel 1 to right", 0, 0⟩,
    ⟨.nr52, "audio master enable", 7, 7⟩,
    ⟨.nr52, "channel-on status", 3, 0⟩ ]

/-- LCDC and STAT (R57, R58). -/
def lcdFields : List IoField :=
  [ ⟨.lcdc, "LCD enable", 7, 7⟩,
    ⟨.lcdc, "window tile map", 6, 6⟩,
    ⟨.lcdc, "window enable", 5, 5⟩,
    ⟨.lcdc, "BG and window tile data", 4, 4⟩,
    ⟨.lcdc, "BG tile map", 3, 3⟩,
    ⟨.lcdc, "OBJ size", 2, 2⟩,
    ⟨.lcdc, "OBJ enable", 1, 1⟩,
    ⟨.lcdc, "BG and window enable", 0, 0⟩,
    ⟨.stat, "LYC interrupt select", 6, 6⟩,
    ⟨.stat, "mode-2 interrupt select", 5, 5⟩,
    ⟨.stat, "mode-1 interrupt select", 4, 4⟩,
    ⟨.stat, "mode-0 interrupt select", 3, 3⟩,
    ⟨.stat, "LYC = LY coincidence", 2, 2⟩,
    ⟨.stat, "PPU mode", 1, 0⟩ ]

/-- SCY, SCX, LY, LYC, DMA, WY, WX (R59, R61). -/
def scrollFields : List IoField :=
  [ ⟨.scy, "background scroll Y", 7, 0⟩,
    ⟨.scx, "background scroll X", 7, 0⟩,
    ⟨.ly, "current scanline", 7, 0⟩,
    ⟨.lyc, "LY compare value", 7, 0⟩,
    ⟨.dma, "OAM DMA source high byte", 7, 0⟩,
    ⟨.wy, "window Y", 7, 0⟩,
    ⟨.wx, "window X plus 7", 7, 0⟩ ]

/-- BGP, OBP0, OBP1 (R60). -/
def paletteFields : List IoField :=
  [ ⟨.bgp, "index 3", 7, 6⟩,
    ⟨.bgp, "index 2", 5, 4⟩,
    ⟨.bgp, "index 1", 3, 2⟩,
    ⟨.bgp, "index 0", 1, 0⟩,
    ⟨.obp0, "index 3", 7, 6⟩,
    ⟨.obp0, "index 2", 5, 4⟩,
    ⟨.obp0, "index 1", 3, 2⟩,
    ⟨.obp0, "index 0", 1, 0⟩,
    ⟨.obp1, "index 3", 7, 6⟩,
    ⟨.obp1, "index 2", 5, 4⟩,
    ⟨.obp1, "index 1", 3, 2⟩,
    ⟨.obp1, "index 0", 1, 0⟩ ]

/-- Every field of R48 to R61. -/
def ioFields : List IoField :=
  serialTimerFields ++ interruptFields ++ channel1Fields ++ channel2Fields ++ channel3Fields ++
    channel4Fields ++ soundControlFields ++ lcdFields ++ scrollFields ++ paletteFields

/-- The value the CPU reads in a field. -/
def State.ioField (s : State) (f : IoField) : Nat :=
  ((s.read f.reg.addr).extractLsb' f.lo (f.hi - f.lo + 1)).toNat

/-- Sample `k` of the wave pattern RAM: two to a byte, the high nibble first (R54). -/
def State.waveSample (s : State) (k : Fin 32) : BitVec 4 :=
  let v := s.read (0xFF30 + BitVec.ofNat 16 (k.val / 2))
  if k.val % 2 = 0 then v.extractLsb' 4 4 else v.extractLsb' 0 4

end Sys2Proof.Machine
end

