-- ==== Sys2Proof/Tests/Slice0.lean ====
section
/-! SUPPORT. Tests: ill-formed encodings are refused; every instruction's word, written out from the `encoding` column of
opcode_table.json, decodes to it; single steps against the vectors of 95_test_vectors.md; and, for each statement with
hypotheses, a state that meets them. -/

open Sys2Proof Sys2Proof.Machine

namespace Sys2Proof.Tests

/-! ## Well-formedness -/

theorem test_wellFormed_empty : wellFormedBytes [] = false := by decide
theorem test_wellFormed_prefix_alone : wellFormedBytes [0xCB] = false := by decide
theorem test_wellFormed_immediate_missing : wellFormedBytes [0x06] = false := by decide
theorem test_wellFormed_word_cut_short : wellFormedBytes [0x01, 0x00] = false := by decide
theorem test_wellFormed_too_long : wellFormedBytes [0x00, 0x00] = false := by decide
theorem test_wellFormed_call : wellFormedBytes [0xCD, 0x34, 0x12] = true := by decide
theorem test_decode_refuses_empty : decodeBytes [] = .error .noOpcode := by decide
theorem test_decode_refuses_truncated : decodeBytes [0xCD, 0x34] = .error (.truncated 0xCD 2 3) := by decide

/-! ## Decoding: every row's word, sixteen rows to a test. The bytes after the word are 0x34 and 0x12. -/

def read3 (b : Byte) : Instr := decode3 b 0x34 0x12
def readCb (b : Byte) : Instr := decode3 0b11001011 b 0x12

theorem test_decode_0x :
    [
      0b00000000, 0b00000001, 0b00000010, 0b00000011, 0b00000100, 0b00000101, 0b00000110, 0b00000111, 0b00001000,
      0b00001001, 0b00001010, 0b00001011, 0b00001100, 0b00001101, 0b00001110, 0b00001111].map read3 = [
      .nop, .ldBcN16 0x1234, .ldAtBcA, .incBc, .incB, .decB, .ldBN8 0x34, .rlca, .ldAtA16Sp 0x1234, .addHlBc,
      .ldAAtBc, .decBc, .incC, .decC, .ldCN8 0x34, .rrca] := by decide
theorem test_decode_1x :
    [
      0b00010000, 0b00010001, 0b00010010, 0b00010011, 0b00010100, 0b00010101, 0b00010110, 0b00010111, 0b00011000,
      0b00011001, 0b00011010, 0b00011011, 0b00011100, 0b00011101, 0b00011110, 0b00011111].map read3 = [
      .stop 0x34, .ldDeN16 0x1234, .ldAtDeA, .incDe, .incD, .decD, .ldDN8 0x34, .rla, .jrE8 0x34, .addHlDe, .ldAAtDe,
      .decDe, .incE, .decE, .ldEN8 0x34, .rra] := by decide
theorem test_decode_2x :
    [
      0b00100000, 0b00100001, 0b00100010, 0b00100011, 0b00100100, 0b00100101, 0b00100110, 0b00100111, 0b00101000,
      0b00101001, 0b00101010, 0b00101011, 0b00101100, 0b00101101, 0b00101110, 0b00101111].map read3 = [
      .jrNzE8 0x34, .ldHlN16 0x1234, .ldAtHliA, .incHl, .incH, .decH, .ldHN8 0x34, .daa, .jrZE8 0x34, .addHlHl,
      .ldAAtHli, .decHl, .incL, .decL, .ldLN8 0x34, .cpl] := by decide
theorem test_decode_3x :
    [
      0b00110000, 0b00110001, 0b00110010, 0b00110011, 0b00110100, 0b00110101, 0b00110110, 0b00110111, 0b00111000,
      0b00111001, 0b00111010, 0b00111011, 0b00111100, 0b00111101, 0b00111110, 0b00111111].map read3 = [
      .jrNcE8 0x34, .ldSpN16 0x1234, .ldAtHldA, .incSp, .incAtHl, .decAtHl, .ldAtHlN8 0x34, .scf, .jrCE8 0x34,
      .addHlSp, .ldAAtHld, .decSp, .incA, .decA, .ldAN8 0x34, .ccf] := by decide
theorem test_decode_4x :
    [
      0b01000000, 0b01000001, 0b01000010, 0b01000011, 0b01000100, 0b01000101, 0b01000110, 0b01000111, 0b01001000,
      0b01001001, 0b01001010, 0b01001011, 0b01001100, 0b01001101, 0b01001110, 0b01001111].map read3 = [
      .ldBB, .ldBC, .ldBD, .ldBE, .ldBH, .ldBL, .ldBAtHl, .ldBA, .ldCB, .ldCC, .ldCD, .ldCE, .ldCH, .ldCL, .ldCAtHl,
      .ldCA] := by decide
theorem test_decode_5x :
    [
      0b01010000, 0b01010001, 0b01010010, 0b01010011, 0b01010100, 0b01010101, 0b01010110, 0b01010111, 0b01011000,
      0b01011001, 0b01011010, 0b01011011, 0b01011100, 0b01011101, 0b01011110, 0b01011111].map read3 = [
      .ldDB, .ldDC, .ldDD, .ldDE, .ldDH, .ldDL, .ldDAtHl, .ldDA, .ldEB, .ldEC, .ldED, .ldEE, .ldEH, .ldEL, .ldEAtHl,
      .ldEA] := by decide
theorem test_decode_6x :
    [
      0b01100000, 0b01100001, 0b01100010, 0b01100011, 0b01100100, 0b01100101, 0b01100110, 0b01100111, 0b01101000,
      0b01101001, 0b01101010, 0b01101011, 0b01101100, 0b01101101, 0b01101110, 0b01101111].map read3 = [
      .ldHB, .ldHC, .ldHD, .ldHE, .ldHH, .ldHL, .ldHAtHl, .ldHA, .ldLB, .ldLC, .ldLD, .ldLE, .ldLH, .ldLL, .ldLAtHl,
      .ldLA] := by decide
theorem test_decode_7x :
    [
      0b01110000, 0b01110001, 0b01110010, 0b01110011, 0b01110100, 0b01110101, 0b01110110, 0b01110111, 0b01111000,
      0b01111001, 0b01111010, 0b01111011, 0b01111100, 0b01111101, 0b01111110, 0b01111111].map read3 = [
      .ldAtHlB, .ldAtHlC, .ldAtHlD, .ldAtHlE, .ldAtHlH, .ldAtHlL, .halt, .ldAtHlA, .ldAB, .ldAC, .ldAD, .ldAE, .ldAH,
      .ldAL, .ldAAtHl, .ldAA] := by decide
theorem test_decode_8x :
    [
      0b10000000, 0b10000001, 0b10000010, 0b10000011, 0b10000100, 0b10000101, 0b10000110, 0b10000111, 0b10001000,
      0b10001001, 0b10001010, 0b10001011, 0b10001100, 0b10001101, 0b10001110, 0b10001111].map read3 = [
      .addAB, .addAC, .addAD, .addAE, .addAH, .addAL, .addAAtHl, .addAA, .adcAB, .adcAC, .adcAD, .adcAE, .adcAH,
      .adcAL, .adcAAtHl, .adcAA] := by decide
theorem test_decode_9x :
    [
      0b10010000, 0b10010001, 0b10010010, 0b10010011, 0b10010100, 0b10010101, 0b10010110, 0b10010111, 0b10011000,
      0b10011001, 0b10011010, 0b10011011, 0b10011100, 0b10011101, 0b10011110, 0b10011111].map read3 = [
      .subB, .subC, .subD, .subE, .subH, .subL, .subAtHl, .subA, .sbcAB, .sbcAC, .sbcAD, .sbcAE, .sbcAH, .sbcAL,
      .sbcAAtHl, .sbcAA] := by decide
theorem test_decode_Ax :
    [
      0b10100000, 0b10100001, 0b10100010, 0b10100011, 0b10100100, 0b10100101, 0b10100110, 0b10100111, 0b10101000,
      0b10101001, 0b10101010, 0b10101011, 0b10101100, 0b10101101, 0b10101110, 0b10101111].map read3 = [
      .andB, .andC, .andD, .andE, .andH, .andL, .andAtHl, .andA, .xorB, .xorC, .xorD, .xorE, .xorH, .xorL, .xorAtHl,
      .xorA] := by decide
theorem test_decode_Bx :
    [
      0b10110000, 0b10110001, 0b10110010, 0b10110011, 0b10110100, 0b10110101, 0b10110110, 0b10110111, 0b10111000,
      0b10111001, 0b10111010, 0b10111011, 0b10111100, 0b10111101, 0b10111110, 0b10111111].map read3 = [
      .orB, .orC, .orD, .orE, .orH, .orL, .orAtHl, .orA, .cpB, .cpC, .cpD, .cpE, .cpH, .cpL, .cpAtHl, .cpA] := by decide
theorem test_decode_Cx :
    [
      0b11000000, 0b11000001, 0b11000010, 0b11000011, 0b11000100, 0b11000101, 0b11000110, 0b11000111, 0b11001000,
      0b11001001, 0b11001010, 0b11001100, 0b11001101, 0b11001110, 0b11001111].map read3 = [
      .retNz, .popBc, .jpNzA16 0x1234, .jpA16 0x1234, .callNzA16 0x1234, .pushBc, .addAN8 0x34, .rst00, .retZ, .ret,
      .jpZA16 0x1234, .callZA16 0x1234, .callA16 0x1234, .adcAN8 0x34, .rst08] := by decide
theorem test_decode_Dx :
    [
      0b11010000, 0b11010001, 0b11010010, 0b11010011, 0b11010100, 0b11010101, 0b11010110, 0b11010111, 0b11011000,
      0b11011001, 0b11011010, 0b11011011, 0b11011100, 0b11011101, 0b11011110, 0b11011111].map read3 = [
      .retNc, .popDe, .jpNcA16 0x1234, .undefinedD3, .callNcA16 0x1234, .pushDe, .subN8 0x34, .rst10, .retC, .reti,
      .jpCA16 0x1234, .undefinedDB, .callCA16 0x1234, .undefinedDD, .sbcAN8 0x34, .rst18] := by decide
theorem test_decode_Ex :
    [
      0b11100000, 0b11100001, 0b11100010, 0b11100011, 0b11100100, 0b11100101, 0b11100110, 0b11100111, 0b11101000,
      0b11101001, 0b11101010, 0b11101011, 0b11101100, 0b11101101, 0b11101110, 0b11101111].map read3 = [
      .ldhAtA8A 0x34, .popHl, .ldAtCA, .undefinedE3, .undefinedE4, .pushHl, .andN8 0x34, .rst20, .addSpE8 0x34, .jpHl,
      .ldAtA16A 0x1234, .undefinedEB, .undefinedEC, .undefinedED, .xorN8 0x34, .rst28] := by decide
theorem test_decode_Fx :
    [
      0b11110000, 0b11110001, 0b11110010, 0b11110011, 0b11110100, 0b11110101, 0b11110110, 0b11110111, 0b11111000,
      0b11111001, 0b11111010, 0b11111011, 0b11111100, 0b11111101, 0b11111110, 0b11111111].map read3 = [
      .ldhAAtA8 0x34, .popAf, .ldAAtC, .di, .undefinedF4, .pushAf, .orN8 0x34, .rst30, .ldHlSpE8 0x34, .ldSpHl,
      .ldAAtA16 0x1234, .ei, .undefinedFC, .undefinedFD, .cpN8 0x34, .rst38] := by decide

theorem test_decode_cb_0x :
    [
      0b00000000, 0b00000001, 0b00000010, 0b00000011, 0b00000100, 0b00000101, 0b00000110, 0b00000111, 0b00001000,
      0b00001001, 0b00001010, 0b00001011, 0b00001100, 0b00001101, 0b00001110, 0b00001111].map readCb = [
      .rlcB, .rlcC, .rlcD, .rlcE, .rlcH, .rlcL, .rlcAtHl, .rlcA, .rrcB, .rrcC, .rrcD, .rrcE, .rrcH, .rrcL, .rrcAtHl,
      .rrcA] := by decide
theorem test_decode_cb_1x :
    [
      0b00010000, 0b00010001, 0b00010010, 0b00010011, 0b00010100, 0b00010101, 0b00010110, 0b00010111, 0b00011000,
      0b00011001, 0b00011010, 0b00011011, 0b00011100, 0b00011101, 0b00011110, 0b00011111].map readCb = [
      .rlB, .rlC, .rlD, .rlE, .rlH, .rlL, .rlAtHl, .rlA, .rrB, .rrC, .rrD, .rrE, .rrH, .rrL, .rrAtHl, .rrA] := by decide
theorem test_decode_cb_2x :
    [
      0b00100000, 0b00100001, 0b00100010, 0b00100011, 0b00100100, 0b00100101, 0b00100110, 0b00100111, 0b00101000,
      0b00101001, 0b00101010, 0b00101011, 0b00101100, 0b00101101, 0b00101110, 0b00101111].map readCb = [
      .slaB, .slaC, .slaD, .slaE, .slaH, .slaL, .slaAtHl, .slaA, .sraB, .sraC, .sraD, .sraE, .sraH, .sraL, .sraAtHl,
      .sraA] := by decide
theorem test_decode_cb_3x :
    [
      0b00110000, 0b00110001, 0b00110010, 0b00110011, 0b00110100, 0b00110101, 0b00110110, 0b00110111, 0b00111000,
      0b00111001, 0b00111010, 0b00111011, 0b00111100, 0b00111101, 0b00111110, 0b00111111].map readCb = [
      .swapB, .swapC, .swapD, .swapE, .swapH, .swapL, .swapAtHl, .swapA, .srlB, .srlC, .srlD, .srlE, .srlH, .srlL,
      .srlAtHl, .srlA] := by decide
theorem test_decode_cb_4x :
    [
      0b01000000, 0b01000001, 0b01000010, 0b01000011, 0b01000100, 0b01000101, 0b01000110, 0b01000111, 0b01001000,
      0b01001001, 0b01001010, 0b01001011, 0b01001100, 0b01001101, 0b01001110, 0b01001111].map readCb = [
      .bit0B, .bit0C, .bit0D, .bit0E, .bit0H, .bit0L, .bit0AtHl, .bit0A, .bit1B, .bit1C, .bit1D, .bit1E, .bit1H,
      .bit1L, .bit1AtHl, .bit1A] := by decide
theorem test_decode_cb_5x :
    [
      0b01010000, 0b01010001, 0b01010010, 0b01010011, 0b01010100, 0b01010101, 0b01010110, 0b01010111, 0b01011000,
      0b01011001, 0b01011010, 0b01011011, 0b01011100, 0b01011101, 0b01011110, 0b01011111].map readCb = [
      .bit2B, .bit2C, .bit2D, .bit2E, .bit2H, .bit2L, .bit2AtHl, .bit2A, .bit3B, .bit3C, .bit3D, .bit3E, .bit3H,
      .bit3L, .bit3AtHl, .bit3A] := by decide
theorem test_decode_cb_6x :
    [
      0b01100000, 0b01100001, 0b01100010, 0b01100011, 0b01100100, 0b01100101, 0b01100110, 0b01100111, 0b01101000,
      0b01101001, 0b01101010, 0b01101011, 0b01101100, 0b01101101, 0b01101110, 0b01101111].map readCb = [
      .bit4B, .bit4C, .bit4D, .bit4E, .bit4H, .bit4L, .bit4AtHl, .bit4A, .bit5B, .bit5C, .bit5D, .bit5E, .bit5H,
      .bit5L, .bit5AtHl, .bit5A] := by decide
theorem test_decode_cb_7x :
    [
      0b01110000, 0b01110001, 0b01110010, 0b01110011, 0b01110100, 0b01110101, 0b01110110, 0b01110111, 0b01111000,
      0b01111001, 0b01111010, 0b01111011, 0b01111100, 0b01111101, 0b01111110, 0b01111111].map readCb = [
      .bit6B, .bit6C, .bit6D, .bit6E, .bit6H, .bit6L, .bit6AtHl, .bit6A, .bit7B, .bit7C, .bit7D, .bit7E, .bit7H,
      .bit7L, .bit7AtHl, .bit7A] := by decide
theorem test_decode_cb_8x :
    [
      0b10000000, 0b10000001, 0b10000010, 0b10000011, 0b10000100, 0b10000101, 0b10000110, 0b10000111, 0b10001000,
      0b10001001, 0b10001010, 0b10001011, 0b10001100, 0b10001101, 0b10001110, 0b10001111].map readCb = [
      .res0B, .res0C, .res0D, .res0E, .res0H, .res0L, .res0AtHl, .res0A, .res1B, .res1C, .res1D, .res1E, .res1H,
      .res1L, .res1AtHl, .res1A] := by decide
theorem test_decode_cb_9x :
    [
      0b10010000, 0b10010001, 0b10010010, 0b10010011, 0b10010100, 0b10010101, 0b10010110, 0b10010111, 0b10011000,
      0b10011001, 0b10011010, 0b10011011, 0b10011100, 0b10011101, 0b10011110, 0b10011111].map readCb = [
      .res2B, .res2C, .res2D, .res2E, .res2H, .res2L, .res2AtHl, .res2A, .res3B, .res3C, .res3D, .res3E, .res3H,
      .res3L, .res3AtHl, .res3A] := by decide
theorem test_decode_cb_Ax :
    [
      0b10100000, 0b10100001, 0b10100010, 0b10100011, 0b10100100, 0b10100101, 0b10100110, 0b10100111, 0b10101000,
      0b10101001, 0b10101010, 0b10101011, 0b10101100, 0b10101101, 0b10101110, 0b10101111].map readCb = [
      .res4B, .res4C, .res4D, .res4E, .res4H, .res4L, .res4AtHl, .res4A, .res5B, .res5C, .res5D, .res5E, .res5H,
      .res5L, .res5AtHl, .res5A] := by decide
theorem test_decode_cb_Bx :
    [
      0b10110000, 0b10110001, 0b10110010, 0b10110011, 0b10110100, 0b10110101, 0b10110110, 0b10110111, 0b10111000,
      0b10111001, 0b10111010, 0b10111011, 0b10111100, 0b10111101, 0b10111110, 0b10111111].map readCb = [
      .res6B, .res6C, .res6D, .res6E, .res6H, .res6L, .res6AtHl, .res6A, .res7B, .res7C, .res7D, .res7E, .res7H,
      .res7L, .res7AtHl, .res7A] := by decide
theorem test_decode_cb_Cx :
    [
      0b11000000, 0b11000001, 0b11000010, 0b11000011, 0b11000100, 0b11000101, 0b11000110, 0b11000111, 0b11001000,
      0b11001001, 0b11001010, 0b11001011, 0b11001100, 0b11001101, 0b11001110, 0b11001111].map readCb = [
      .set0B, .set0C, .set0D, .set0E, .set0H, .set0L, .set0AtHl, .set0A, .set1B, .set1C, .set1D, .set1E, .set1H,
      .set1L, .set1AtHl, .set1A] := by decide
theorem test_decode_cb_Dx :
    [
      0b11010000, 0b11010001, 0b11010010, 0b11010011, 0b11010100, 0b11010101, 0b11010110, 0b11010111, 0b11011000,
      0b11011001, 0b11011010, 0b11011011, 0b11011100, 0b11011101, 0b11011110, 0b11011111].map readCb = [
      .set2B, .set2C, .set2D, .set2E, .set2H, .set2L, .set2AtHl, .set2A, .set3B, .set3C, .set3D, .set3E, .set3H,
      .set3L, .set3AtHl, .set3A] := by decide
theorem test_decode_cb_Ex :
    [
      0b11100000, 0b11100001, 0b11100010, 0b11100011, 0b11100100, 0b11100101, 0b11100110, 0b11100111, 0b11101000,
      0b11101001, 0b11101010, 0b11101011, 0b11101100, 0b11101101, 0b11101110, 0b11101111].map readCb = [
      .set4B, .set4C, .set4D, .set4E, .set4H, .set4L, .set4AtHl, .set4A, .set5B, .set5C, .set5D, .set5E, .set5H,
      .set5L, .set5AtHl, .set5A] := by decide
theorem test_decode_cb_Fx :
    [
      0b11110000, 0b11110001, 0b11110010, 0b11110011, 0b11110100, 0b11110101, 0b11110110, 0b11110111, 0b11111000,
      0b11111001, 0b11111010, 0b11111011, 0b11111100, 0b11111101, 0b11111110, 0b11111111].map readCb = [
      .set6B, .set6C, .set6D, .set6E, .set6H, .set6L, .set6AtHl, .set6A, .set7B, .set7C, .set7D, .set7E, .set7H,
      .set7L, .set7AtHl, .set7A] := by decide

/-! ## Single steps, from 95_test_vectors.md -/

/-- A small state with `code` at 0x0150: the vectors' defaults (`Standard` interrupt mode, the other parameters at their
defaults). -/
def base (code : List Byte) : State where
  regs := ⟨0, 0, 0, 0, 0, 0, 0, 0⟩
  sp := 0xFFFE
  pc := 0x0150
  ime := false
  eiDelay := 0
  halted := false
  fault := none
  overlay := false
  mem := []
  gpu := ⟨.oamRead, 0, 0, 0, 0⟩
  launch := ⟨Memory.ofBytes 0x0150 code, [], { irqMode := .standard }⟩
  cycles := 0

/-- The registers of `base`, to be changed one by one. -/
def zeros : Regs := ⟨0, 0, 0, 0, 0, 0, 0, 0⟩

/-- The step of `s` goes on, takes `n` cycles, and leaves a state with `p`. -/
def goes (s : State) (n : Nat) (p : State → Bool) : Bool :=
  match step s with
  | .next t => t.cycles == n && p t
  | _ => false

/-- The step of `s` faults with `k`, and leaves a state with `p`. -/
def stops (s : State) (k : FaultKind) (p : State → Bool) : Bool :=
  match step s with
  | .fault f => f.record.kind == k && p f.left
  | _ => false

theorem test_LD_1 :
    goes { base [0x41] with regs := { zeros with b := 0x11, c := 0x22 } } 4
      (fun t => t.regs.b == 0x22 && t.regs.c == 0x22 && t.pc == 0x0151) = true := by decide
theorem test_LD_2 :
    goes { base [0x7F] with regs := { zeros with a := 0x5A, f := 0xB0 } } 4
      (fun t => t.regs.a == 0x5A && t.regs.f == 0xB0 && t.pc == 0x0151) = true := by decide
theorem test_LD_3 :
    goes { base [0x7E] with regs := { zeros with h := 0xC1, l := 0x23 }, mem := [(0xC123, 0x9C)] } 8
      (fun t => t.regs.a == 0x9C) = true := by decide
theorem test_LD_4 :
    goes { base [0x70] with regs := { zeros with h := 0xC0, l := 0x00, b := 0x42 } } 8
      (fun t => t.read 0xC000 == 0x42 && t.read 0xE000 == 0x42) = true := by decide
theorem test_LD_5 :
    goes (base [0x06, 0xFE]) 8
      (fun t => t.regs.b == 0xFE && t.pc == 0x0152) = true := by decide
theorem test_LD_6 :
    goes { base [0x36, 0x77] with regs := { zeros with h := 0xFF, l := 0x80 } } 12
      (fun t => t.read 0xFF80 == 0x77) = true := by decide
theorem test_LD_7 :
    goes { base [0x0A] with regs := { zeros with b := 0xE0, c := 0x05 }, mem := [(0xC005, 0x3D)] } 8
      (fun t => t.regs.a == 0x3D) = true := by decide
theorem test_LD_8 :
    goes { base [0x12] with regs := { zeros with d := 0xFF, e := 0xFF, a := 0x1F } } 8
      (fun t => t.read 0xFFFF == 0x1F) = true := by decide
theorem test_LD_9 :
    goes { base [0x22] with regs := { zeros with h := 0xFF, l := 0xFF, a := 0x07 } } 8
      (fun t => t.regs.hl == 0x0000 && t.read 0xFFFF == 0x07) = true := by decide
theorem test_LD_10 :
    goes { base [0x3A] with
      regs := { zeros with h := 0x00, l := 0x00 }, launch := ⟨Memory.ofBytes 0x0150 [0x3A] |>.write 0x0000 0xC3, [], { irqMode := .standard }⟩ } 8
      (fun t => t.regs.a == 0xC3 && t.regs.hl == 0xFFFF) = true := by decide
theorem test_LD_11 :
    goes { base [0xF0, 0x44] with gpu := ⟨.vblank, 0x90, 0, 0, 0⟩ } 12
      (fun t => t.regs.a == 0x90) = true := by decide
theorem test_LD_12 :
    goes { base [0xE2] with regs := { zeros with c := 0x80, a := 0xAA } } 8
      (fun t => t.read 0xFF80 == 0xAA) = true := by decide
theorem test_LD_13 :
    goes { base [0xEA, 0x00, 0xD0] with regs := { zeros with a := 0x66 } } 16
      (fun t => t.pc == 0x0153 && t.read 0xD000 == 0x66) = true := by decide
theorem test_LD_14 :
    goes { base [0xFA, 0x10, 0xFE] with mem := [(0xFE10, 0x99)] } 16
      (fun t => t.regs.a == 0x99) = true := by decide
theorem test_LD_15 :
    goes (base [0x21, 0x34, 0x12]) 12
      (fun t => t.regs.hl == 0x1234 && t.pc == 0x0153) = true := by decide
theorem test_LD_16 :
    goes { base [0x08, 0x00, 0xC1] with sp := 0xBEEF } 20
      (fun t => t.read 0xC100 == 0xEF && t.read 0xC101 == 0xBE) = true := by decide
theorem test_LD_17 :
    goes { base [0xF9] with regs := { zeros with h := 0x12, l := 0x34 } } 8
      (fun t => t.sp == 0x1234) = true := by decide
theorem test_LD_18 :
    goes { base [0xC5] with regs := { zeros with b := 0x12, c := 0x34 } } 16
      (fun t => t.sp == 0xFFFC && t.read 0xFFFC == 0x34 && t.read 0xFFFD == 0x12) = true := by decide
theorem test_LD_19 :
    goes { base [0xF1] with sp := 0xC000, mem := [(0xC000, 0xFF), (0xC001, 0x12)] } 12
      (fun t => t.regs.a == 0x12 && t.regs.f == 0xF0 && t.sp == 0xC002) = true := by decide
theorem test_LD_20 :
    goes { base [0xC1] with sp := 0xFFFF, mem := [(0xFFFF, 0x34)] } 12
      (fun t => t.regs.bc == 0x0034 && t.sp == 0x0001) = true := by decide
theorem test_LD_21 :
    stops { base [0x77] with regs := { zeros with h := 0x20, l := 0x00, a := 0x01 } } (.bankSwitch 0x2000 0x01)
      (fun t => t.pc == 0x0151) = true := by decide
theorem test_LD_22 :
    stops { base [0x77] with regs := { zeros with h := 0xFE, l := 0xA0, a := 0x01 } } (.unusableWrite 0xFEA0 0x01)
      (fun t => t.pc == 0x0151) = true := by decide
theorem test_LD_24 :
    stops { base [0xD5] with regs := { zeros with d := 0xAB, e := 0xCD }, sp := 0x8001 } (.bankSwitch 0x7FFF 0xCD)
      (fun t => t.sp == 0x7FFF && t.read 0x8000 == 0xAB) = true := by decide
theorem test_LD_25 :
    goes { base [0xE0, 0x04] with regs := { zeros with a := 0x77 } } 12
      (fun t => t.read 0xFF04 == 0x00) = true := by decide
theorem test_LD_27 :
    stops { base [0xE0, 0x46] with regs := { zeros with a := 0xC0 } } (.oamDma 0xC0)
      (fun t => t.pc == 0x0152) = true := by decide
theorem test_A8_1 :
    goes { base [0x80] with regs := { zeros with a := 0x3A, b := 0xC6 } } 4
      (fun t => t.regs.a == 0x00 && t.regs.f == 0xB0) = true := by decide
theorem test_A8_2 :
    goes { base [0x87] with regs := { zeros with a := 0x08 } } 4
      (fun t => t.regs.a == 0x10 && t.regs.f == 0x20) = true := by decide
theorem test_A8_3 :
    goes { base [0x8E] with
      regs := { zeros with a := 0xE1, h := 0xC0, l := 0x00, f := 0x10 }, mem := [(0xC000, 0x1E)] } 8
      (fun t => t.regs.a == 0x00 && t.regs.f == 0xB0) = true := by decide
theorem test_A8_4 :
    goes { base [0xCE, 0x00] with regs := { zeros with a := 0x0F, f := 0x10 } } 8
      (fun t => t.regs.a == 0x10 && t.regs.f == 0x20) = true := by decide
theorem test_A8_5 :
    goes { base [0x8F] with regs := { zeros with a := 0x80, f := 0x10 } } 4
      (fun t => t.regs.a == 0x01 && t.regs.f == 0x10) = true := by decide
theorem test_A8_6 :
    goes { base [0x97] with regs := { zeros with a := 0x3E } } 4
      (fun t => t.regs.a == 0x00 && t.regs.f == 0xC0) = true := by decide
theorem test_A8_7 :
    goes { base [0xD6, 0x0F] with regs := { zeros with a := 0x3E } } 8
      (fun t => t.regs.a == 0x2F && t.regs.f == 0x60) = true := by decide
theorem test_A8_8 :
    goes { base [0xD6, 0x40] with regs := { zeros with a := 0x3E } } 8
      (fun t => t.regs.a == 0xFE && t.regs.f == 0x50) = true := by decide
theorem test_A8_9 :
    goes { base [0x9F] with regs := { zeros with a := 0x55, f := 0x10 } } 4
      (fun t => t.regs.a == 0xFF && t.regs.f == 0x70) = true := by decide
theorem test_A8_10 :
    goes { base [0xDE, 0x00] with regs := { zeros with a := 0x00, f := 0x10 } } 8
      (fun t => t.regs.a == 0xFF && t.regs.f == 0x70) = true := by decide
theorem test_A8_11 :
    goes { base [0xA5] with regs := { zeros with a := 0x5A, l := 0x3F } } 4
      (fun t => t.regs.a == 0x1A && t.regs.f == 0x20) = true := by decide
theorem test_A8_12 :
    goes { base [0xE6, 0x00] with regs := { zeros with a := 0x5A, f := 0x10 } } 8
      (fun t => t.regs.a == 0x00 && t.regs.f == 0xA0) = true := by decide
theorem test_A8_13 :
    goes { base [0xAF] with regs := { zeros with a := 0x5A, f := 0x70 } } 4
      (fun t => t.regs.a == 0x00 && t.regs.f == 0x80) = true := by decide
theorem test_A8_14 :
    goes { base [0xF6, 0x00] with regs := { zeros with a := 0x00 } } 8
      (fun t => t.regs.a == 0x00 && t.regs.f == 0x80) = true := by decide
theorem test_A8_15 :
    goes { base [0xB8] with regs := { zeros with a := 0x3C, b := 0x2F } } 4
      (fun t => t.regs.a == 0x3C && t.regs.f == 0x60) = true := by decide
theorem test_A8_16 :
    goes { base [0xFE, 0x3C] with regs := { zeros with a := 0x3C } } 8
      (fun t => t.regs.a == 0x3C && t.regs.f == 0xC0) = true := by decide
theorem test_A8_17 :
    goes { base [0xBE] with
      regs := { zeros with a := 0x3C, h := 0xC0, l := 0x00 }, mem := [(0xC000, 0x40)] } 8
      (fun t => t.regs.a == 0x3C && t.regs.f == 0x50) = true := by decide
theorem test_A8_18 :
    goes { base [0x3C] with regs := { zeros with a := 0xFF } } 4
      (fun t => t.regs.a == 0x00 && t.regs.f == 0xA0) = true := by decide
theorem test_A8_20 :
    goes { base [0x04] with regs := { zeros with b := 0x7F, f := 0x10 } } 4
      (fun t => t.regs.b == 0x80 && t.regs.f == 0x30) = true := by decide
theorem test_A8_21 :
    goes { base [0x05] with regs := { zeros with b := 0x10 } } 4
      (fun t => t.regs.b == 0x0F && t.regs.f == 0x60) = true := by decide
theorem test_A8_22 :
    goes { base [0x2D] with regs := { zeros with l := 0x01 } } 4
      (fun t => t.regs.l == 0x00 && t.regs.f == 0xC0) = true := by decide
theorem test_A8_23 :
    goes { base [0x35] with regs := { zeros with h := 0xC0, l := 0x00 } } 12
      (fun t => t.regs.f == 0x60 && t.read 0xC000 == 0xFF) = true := by decide
theorem test_A8_24 :
    stops { base [0x34] with regs := { zeros with h := 0x40, l := 0x00 } } (.bankSwitch 0x4000 0x01)
      (fun t => t.regs.f == 0x00 && t.pc == 0x0151) = true := by decide
theorem test_A8_29 :
    goes { base [0x27] with regs := { zeros with a := 0x9A } } 4
      (fun t => t.regs.a == 0x00 && t.regs.f == 0x90) = true := by decide
theorem test_A8_30 :
    goes { base [0x27] with regs := { zeros with a := 0x00, f := 0x70 } } 4
      (fun t => t.regs.a == 0x9A && t.regs.f == 0x50) = true := by decide
theorem test_A8_31 :
    goes { base [0x2F] with regs := { zeros with a := 0x35, f := 0x90 } } 4
      (fun t => t.regs.a == 0xCA && t.regs.f == 0xF0) = true := by decide
theorem test_A8_32 :
    goes { base [0x37] with regs := { zeros with f := 0x80 } } 4
      (fun t => t.regs.f == 0x90) = true := by decide
theorem test_A8_33 :
    goes { base [0x3F] with regs := { zeros with f := 0x70 } } 4
      (fun t => t.regs.f == 0x00) = true := by decide
theorem test_A8_34 :
    goes { base [0x3F] with regs := { zeros with f := 0x80 } } 4
      (fun t => t.regs.f == 0x90) = true := by decide
theorem test_A16_1 :
    goes { base [0x09] with regs := { zeros with h := 0x8A, l := 0x23, b := 0x06, c := 0x05 } } 8
      (fun t => t.regs.hl == 0x9028 && t.regs.f == 0x20) = true := by decide
theorem test_A16_3 :
    goes { base [0x09] with regs := { zeros with h := 0x08, l := 0x00, b := 0x08, c := 0x00 } } 8
      (fun t => t.regs.hl == 0x1000 && t.regs.f == 0x20) = true := by decide
theorem test_A16_6 :
    goes { base [0x03] with regs := { zeros with b := 0xFF, c := 0xFF } } 8
      (fun t => t.regs.bc == 0x0000 && t.regs.f == 0x00) = true := by decide
theorem test_A16_7 :
    goes { base [0x3B] with sp := 0x0000 } 8
      (fun t => t.sp == 0xFFFF) = true := by decide
theorem test_A16_9 :
    goes { base [0xE8, 0xFF] with sp := 0x0001 } 16
      (fun t => t.sp == 0x0000 && t.regs.f == 0x30) = true := by decide
theorem test_A16_10 :
    goes { base [0xE8, 0x80] with sp := 0x0080 } 16
      (fun t => t.sp == 0x0000 && t.regs.f == 0x10) = true := by decide
theorem test_A16_11 :
    goes { base [0xF8, 0x08] with regs := { zeros with f := 0x80 }, sp := 0xFFF8 } 12
      (fun t => t.regs.hl == 0x0000 && t.sp == 0xFFF8 && t.regs.f == 0x30) = true := by decide
theorem test_A16_12 :
    goes { base [0xF8, 0xFF] with sp := 0x0000 } 12
      (fun t => t.regs.hl == 0xFFFF && t.regs.f == 0x00) = true := by decide
theorem test_RS_1 :
    goes { base [0x07] with regs := { zeros with a := 0x85 } } 4
      (fun t => t.regs.a == 0x0B && t.regs.f == 0x10) = true := by decide
theorem test_RS_2 :
    goes { base [0x07] with regs := { zeros with a := 0x00, f := 0x80 } } 4
      (fun t => t.regs.a == 0x00 && t.regs.f == 0x00) = true := by decide
theorem test_RS_3 :
    goes { base [0x0F] with regs := { zeros with a := 0x01 } } 4
      (fun t => t.regs.a == 0x80 && t.regs.f == 0x10) = true := by decide
theorem test_RS_4 :
    goes { base [0x17] with regs := { zeros with a := 0x80 } } 4
      (fun t => t.regs.a == 0x00 && t.regs.f == 0x10) = true := by decide
theorem test_RS_5 :
    goes { base [0x1F] with regs := { zeros with a := 0x81, f := 0x10 } } 4
      (fun t => t.regs.a == 0xC0 && t.regs.f == 0x10) = true := by decide
theorem test_RS_6 :
    goes { base [0xCB, 0x00] with regs := { zeros with b := 0x85 } } 8
      (fun t => t.regs.b == 0x0B && t.regs.f == 0x10) = true := by decide
theorem test_RS_7 :
    goes { base [0xCB, 0x11] with regs := { zeros with c := 0x80 } } 8
      (fun t => t.regs.c == 0x00 && t.regs.f == 0x90) = true := by decide
theorem test_RS_8 :
    goes { base [0xCB, 0x1F] with regs := { zeros with a := 0x01, f := 0x10 } } 8
      (fun t => t.regs.a == 0x80 && t.regs.f == 0x10) = true := by decide
theorem test_RS_9 :
    goes { base [0xCB, 0x09] with regs := { zeros with c := 0x01 } } 8
      (fun t => t.regs.c == 0x80 && t.regs.f == 0x10) = true := by decide
theorem test_RS_10 :
    goes { base [0xCB, 0x27] with regs := { zeros with a := 0x80 } } 8
      (fun t => t.regs.a == 0x00 && t.regs.f == 0x90) = true := by decide
theorem test_RS_11 :
    goes { base [0xCB, 0x28] with regs := { zeros with b := 0x8A } } 8
      (fun t => t.regs.b == 0xC5 && t.regs.f == 0x00) = true := by decide
theorem test_RS_12 :
    goes { base [0xCB, 0x3F] with regs := { zeros with a := 0x01 } } 8
      (fun t => t.regs.a == 0x00 && t.regs.f == 0x90) = true := by decide
theorem test_RS_13 :
    goes { base [0xCB, 0x37] with regs := { zeros with a := 0xF0, f := 0x10 } } 8
      (fun t => t.regs.a == 0x0F && t.regs.f == 0x00) = true := by decide
theorem test_RS_14 :
    goes { base [0xCB, 0x37] with regs := { zeros with a := 0x00 } } 8
      (fun t => t.regs.a == 0x00 && t.regs.f == 0x80) = true := by decide
theorem test_RS_15 :
    goes { base [0xCB, 0x36] with regs := { zeros with h := 0xC0, l := 0x00 }, mem := [(0xC000, 0xAB)] } 16
      (fun t => t.regs.f == 0x00 && t.read 0xC000 == 0xBA) = true := by decide
theorem test_RS_16 :
    goes { base [0xCB, 0x7C] with regs := { zeros with h := 0x80, f := 0x10 } } 8
      (fun t => t.regs.h == 0x80 && t.regs.f == 0x30) = true := by decide
theorem test_RS_17 :
    goes { base [0xCB, 0x7C] with regs := { zeros with h := 0x7F } } 8
      (fun t => t.regs.h == 0x7F && t.regs.f == 0xA0) = true := by decide
theorem test_RS_18 :
    goes { base [0xCB, 0x46] with regs := { zeros with h := 0x01, l := 0x00 } } 12
      (fun t => t.regs.f == 0xA0) = true := by decide
theorem test_RS_19 :
    goes { base [0xCB, 0x9F] with regs := { zeros with a := 0xFF, f := 0xF0 } } 8
      (fun t => t.regs.a == 0xF7 && t.regs.f == 0xF0) = true := by decide
theorem test_RS_20 :
    goes { base [0xCB, 0xC6] with regs := { zeros with h := 0xC0, l := 0x00 } } 16
      (fun t => t.regs.f == 0x00 && t.read 0xC000 == 0x01) = true := by decide
theorem test_RS_21 :
    stops { base [0xCB, 0x86] with regs := { zeros with h := 0x30, l := 0x00, f := 0xA0 } } (.bankSwitch 0x3000 0x00)
      (fun t => t.regs.f == 0xA0 && t.pc == 0x0152) = true := by decide
theorem test_RS_22 :
    stops { base [0xCB, 0x06] with regs := { zeros with h := 0x30, l := 0x00 } } (.bankSwitch 0x3000 0x00)
      (fun t => t.regs.f == 0x00 && t.pc == 0x0152) = true := by decide
theorem test_CT_1 :
    goes (base [0xC3, 0x00, 0x20]) 16
      (fun t => t.pc == 0x2000) = true := by decide
theorem test_CT_2 :
    goes { base [0xC2, 0x00, 0x20] with regs := { zeros with f := 0x80 } } 12
      (fun t => t.pc == 0x0153) = true := by decide
theorem test_CT_3 :
    goes (base [0xC2, 0x00, 0x20]) 16
      (fun t => t.pc == 0x2000) = true := by decide
theorem test_CT_4 :
    goes { base [0xE9] with regs := { zeros with h := 0xC0, l := 0x00 } } 4
      (fun t => t.pc == 0xC000) = true := by decide
theorem test_CT_5 :
    goes (base [0x18, 0xFE]) 12
      (fun t => t.pc == 0x0150) = true := by decide
theorem test_CT_6 :
    goes (base [0x18, 0x80]) 12
      (fun t => t.pc == 0x00D2) = true := by decide
theorem test_CT_8 :
    goes (base [0x38, 0x10]) 8
      (fun t => t.pc == 0x0152) = true := by decide
theorem test_CT_9 :
    goes { base [0x38, 0x10] with regs := { zeros with f := 0x10 } } 12
      (fun t => t.pc == 0x0162) = true := by decide
theorem test_CT_10 :
    goes (base [0xCD, 0x00, 0x02]) 24
      (fun t => t.pc == 0x0200 && t.sp == 0xFFFC && t.read 0xFFFC == 0x53 && t.read 0xFFFD == 0x01) = true := by decide
theorem test_CT_12 :
    goes (base [0xDC, 0x00, 0x02]) 12
      (fun t => t.pc == 0x0153 && t.sp == 0xFFFE) = true := by decide
theorem test_CT_13 :
    goes { base [0xC8] with
      regs := { zeros with f := 0x80 }, sp := 0xC000, mem := [(0xC000, 0x34), (0xC001, 0x12)] } 20
      (fun t => t.pc == 0x1234 && t.sp == 0xC002) = true := by decide
theorem test_CT_14 :
    goes { base [0xC8] with sp := 0xC000 } 8
      (fun t => t.pc == 0x0151 && t.sp == 0xC000) = true := by decide
theorem test_CT_15 :
    goes { base [0xD9] with sp := 0xC000, mem := [(0xC000, 0x34), (0xC001, 0x12)] } 16
      (fun t => t.pc == 0x1234 && t.sp == 0xC002 && t.ime) = true := by decide
theorem test_CT_16 :
    goes (base [0xFF]) 16
      (fun t => t.pc == 0x0038 && t.sp == 0xFFFC && t.read 0xFFFC == 0x51 && t.read 0xFFFD == 0x01) = true := by decide
theorem test_CT_17 :
    goes (base [0xEF]) 16
      (fun t => t.pc == 0x0028) = true := by decide
theorem test_CT_18 :
    stops { base [0xCD, 0x00, 0x02] with sp := 0x0001 } (.bankSwitch 0x0000 0x01)
      (fun t => t.pc == 0x0153 && t.sp == 0x0000) = true := by decide
theorem test_SY_1 :
    goes { base [0x00] with regs := { zeros with a := 0x12, f := 0x50 } } 4
      (fun t => t.regs.a == 0x12 && t.regs.f == 0x50 && t.pc == 0x0151) = true := by decide
theorem test_SY_2 :
    goes { base [0x76] with mem := [(0xFFFF, 0x01)] } 4
      (fun t => t.pc == 0x0151 && t.halted) = true := by decide
theorem test_SY_4 :
    stops { base [0x76] with mem := [(0xFF0F, 0x01), (0xFFFF, 0x01)] } (.haltBug 0x0150)
      (fun t => t.pc == 0x0151) = true := by decide
theorem test_SY_6 :
    stops (base [0x10, 0x00]) (.stop 0x0150)
      (fun t => t.pc == 0x0152) = true := by decide
theorem test_SY_10 :
    goes (base [0xD3]) 0
      (fun t => t.pc == 0x0151) = true := by decide
theorem test_SY_12 :
    goes { base [0xCB, 0x37] with regs := { zeros with a := 0xF0 } } 8
      (fun t => t.regs.a == 0x0F && t.regs.f == 0x00 && t.pc == 0x0152) = true := by decide
theorem test_IR_2 :
    goes { base [0x00] with ime := true, mem := [(0xFF0F, 0x1C), (0xFFFF, 0x1F)] } 20
      (fun t => t.pc == 0x0050 && t.iflag == 0x18 && !t.ime) = true := by decide
theorem test_IR_3 :
    goes { base [0x00] with ime := true, mem := [(0xFF0F, 0xE0), (0xFFFF, 0xFF)] } 4
      (fun t => t.pc == 0x0151 && t.iflag == 0xE0) = true := by decide
theorem test_IR_4 :
    goes { base [0x00] with ime := true, mem := [(0xFF0F, 0x01), (0xFFFF, 0x02)] } 4
      (fun t => t.pc == 0x0151 && t.iflag == 0x01) = true := by decide
theorem test_IR_7 :
    goes { base [0x00] with ime := true, sp := 0xC002, mem := [(0xFF0F, 0x10), (0xFFFF, 0x10)] } 20
      (fun t => t.pc == 0x0060 && t.sp == 0xC000 && t.iflag == 0x00 && !t.ime && t.read 0xC000 == 0x50 && t.read 0xC001 == 0x01) = true := by decide
theorem test_IR_8 :
    stops { base [0x00] with ime := true, sp := 0x0001, mem := [(0xFF0F, 0x01), (0xFFFF, 0x01)] } (.bankSwitch 0x0000 0x01)
      (fun t => t.pc == 0x0150 && t.sp == 0x0000 && t.iflag == 0x00 && !t.ime) = true := by decide

/-! ## Witnesses: states and operands that meet the hypotheses of the statements -/

/-- A halted core. -/
def asleep : State := { base [0x76, 0x00] with halted := true, mem := [(0xFFFF, 0x01)] }

/-- The same, as far from the next VBLANK entry as a state can be. -/
def asleepLong : State := { asleep with gpu := ⟨.vblank, 144, 0, 0, 0⟩ }

/-- An enabled interrupt pending with IME = 1; `e` and `f` are IE and IF. -/
def interrupted (e f : Byte) : State := { base [0x00] with ime := true, mem := [(0xFF0F, f), (0xFFFF, e)] }

/-- `base` with its parameters changed. -/
def withParams (p : Params) : State := { base [0x00] with launch := ⟨[], [], p⟩ }

theorem witness_EveryByteSequence : decodeBytes [0xCB, 0x37, 0x99] = .ok (.swapA, [0x99]) ∧
    3 ≤ [0xFF, 0x00, 0x00].length ∧ wellFormedBytes [0xC3, 0x00, 0x20] = true := by decide

theorem witness_StepRuns : let s := base [0xCD, 0x34, 0x12]
    s.fault = none ∧ ¬(s.halted = true ∧ s.pending = 0) ∧ ¬(s.ime = true ∧ s.pending ≠ 0) ∧
    s.read s.pc = 0xCD ∧ s.read (s.pc + 1) = 0x34 ∧ s.read (s.pc + 2) = 0x12 ∧
    encode (.callA16 0x1234) = [0xCD, 0x34, 0x12] := by decide

theorem witness_PlacedWord : let s := { State.reset with pc := 0xFFFE }
    decodeTableWord 24 0x1234CD = some (.callA16 0x1234) ∧ s.memoryOk = true ∧
    ∀ k < 3, region s.overlay (s.pc + BitVec.ofNat 16 k) ≠ .unusable ∧
      s.pc + BitVec.ofNat 16 k ≠ 0xFF41 ∧ s.pc + BitVec.ofNat 16 k ≠ 0xFF44 := by decide

theorem test_placed_at_the_top : ({ State.reset with pc := 0xFFFE }.withFetchWord 24 0x1234CD).fetch = .callA16 0x1234 := by
  decide
theorem test_placed_cb_row : (State.reset.withFetchWord 16 0xCB37).fetch = .swapA := by decide

theorem witness_HaltedStep : asleep.fault = none ∧ asleep.halted = true ∧ asleep.pending = 0 := by decide

theorem witness_HaltWithVblank : let s := asleepLong
    s.fault = none ∧ s.halted = true ∧ s.schedulerOk = true ∧ s.memoryOk = true ∧ s.ie.getLsbD 0 = true := by decide

theorem witness_PendingWakes : let s := { asleep with mem := [(0xFF0F, 0x01), (0xFFFF, 0x01)] }
    s.fault = none ∧ s.halted = true ∧ s.pending ≠ 0 := by decide

theorem witness_RaisedFault : ∃ f, step (base [0x10, 0x00]) = .fault f := ⟨_, rfl⟩

theorem witness_RaisedFault_latched : let s := { base [0x00] with fault := some ⟨.stop 0x0150, 0x0150⟩ }
    s.fault ≠ none ∧ stops s (.stop 0x0150) (fun t => t == s) = true := by decide

/-- Every kind of fault but `InvariantViolation`, each from a state with none latched. -/
theorem witness_EachFaultHasItsCause :
    stops { base [0x77] with regs := { zeros with h := 0x7F, l := 0xFF } } (.bankSwitch 0x7FFF 0x00) (fun _ => true) ∧
    stops { base [0x77] with regs := { zeros with h := 0xFE, l := 0xFF } } (.unusableWrite 0xFEFF 0x00) (fun _ => true) ∧
    stops (base [0xE0, 0x46]) (.oamDma 0x00) (fun _ => true) ∧
    stops { interrupted 0x1F 0x1F with launch := ⟨[], [], { irqMode := .failLoudly }⟩ } (.interruptDispatch 0x1F)
      (fun t => t.pc == 0x0150) ∧
    stops { base [] with launch := ⟨Memory.ofBytes 0x0150 [0x76], [], { irqMode := .failLoudly }⟩ } (.halt 0x0150)
      (fun t => t.pc == 0x0151 && !t.halted) ∧
    stops { base [0x76] with mem := [(0xFF0F, 0x10), (0xFFFF, 0x10)] } (.haltBug 0x0150) (fun t => t.pc == 0x0151) ∧
    stops (base [0x10]) (.stop 0x0150) (fun t => t.pc == 0x0152) := by decide

theorem witness_FailLoudlyBoundary : let s := { interrupted 0x10 0x10 with launch := ⟨[], [], { irqMode := .failLoudly }⟩ }
    s.fault = none ∧ s.ime = true ∧ s.pending ≠ 0 ∧ s.launch.params.irqMode = .failLoudly := by decide

theorem witness_StandardBoundary : let s := interrupted 0x1F 0x1F
    s.fault = none ∧ s.ime = true ∧ s.launch.params.irqMode = .standard ∧ s.pending.getLsbD 0 = true ∧
    s.memoryOk = true ∧ isPlain (s.sp - 1) = true ∧ isPlain (s.sp - 2) = true ∧ s.sp - 1 ≠ 0xFF0F ∧ s.sp - 2 ≠ 0xFF0F := by
  decide

theorem witness_StandardBoundary_last : let s := { interrupted 0x10 0xF0 with sp := 0x8000 }
    s.fault = none ∧ s.ime = true ∧ s.launch.params.irqMode = .standard ∧ s.pending.getLsbD 4 = true ∧
    (∀ j < 4, s.pending.getLsbD j = false) ∧ (s.sp - 1).toNat < 0x8000 := by decide

theorem witness_StandardBoundary_second : let s := { interrupted 0x1C 0x14 with sp := 0x8001 }
    s.fault = none ∧ s.ime = true ∧ s.launch.params.irqMode = .standard ∧ s.pending.getLsbD 2 = true ∧
    (∀ j < 2, s.pending.getLsbD j = false) ∧
    stops s (.bankSwitch 0x7FFF 0x50) (fun t => t.read 0x8000 == 0x01 && t.iflag == 0x10 && t.sp == 0x7FFF && t.pc == 0x0150) =
      true := by decide

/-- A stack byte at DIV, and one at IF, which the push of PC writes after the request is cleared (R460). -/
theorem test_dispatch_stack_in_io :
    goes { interrupted 0x01 0x01 with sp := 0xFF06 } 20 (fun t => t.read 0xFF05 == 0x01 && t.read 0xFF04 == 0x00) = true ∧
    goes { interrupted 0x01 0x01 with sp := 0xFF11 } 20 (fun t => t.read 0xFF10 == 0x01 && t.iflag == 0x50) = true := by
  decide

/-- The write faults of a dispatch are caused by its pushes (R450, R460). -/
theorem witness_EachFaultHasItsCause_dispatch :
    stops { interrupted 0x01 0x01 with sp := 0xFEA1, launch := ⟨[], [], { irqMode := .standard }⟩ } (.unusableWrite 0xFEA0 0x01)
      (fun _ => true) = true ∧
    stops { interrupted 0x01 0x01 with sp := 0xFF48, launch := ⟨[], [], { irqMode := .standard }⟩ } (.oamDma 0x50)
      (fun t => t.read 0xFF47 == 0x01) = true := by decide

theorem witness_EiTakesEffect :
    [(base [0xFB], 0, .ei), ({ base [0x00] with eiDelay := 1 }, 1, .nop), ({ base [0xF3] with eiDelay := 1 }, 1, .di)].all
      (fun x => x.1.fault == none && !x.1.halted && !x.1.ime && x.1.eiDelay == x.2.1 && x.1.fetch == x.2.2) = true := by
  decide

theorem witness_EiTakesEffect_next : ∃ u, exec .nop { base [0x00] with eiDelay := 1 } = .next u := ⟨_, rfl⟩

theorem witness_invariants : let s := { base [0xC5] with regs := { zeros with f := 0xF0 } }
    s.lowNibbleClear = true ∧ s.memoryOk = true ∧ s.schedulerOk = true ∧ s.eiOk = true ∧ s.haltOk = true ∧
    s.overlay = false ∧ goes s 16 (fun t => t.inv) = true := by decide

theorem witness_Construction : ∃ s, State.construct
    ⟨List.replicate 0x8000 0x00, List.replicate 256 0x00, {}, .bootOverlay, Init.zero⟩ = .ok s :=
  ⟨_, (if_neg (by rw [List.length_replicate]; decide)).trans (if_neg (by rw [List.length_replicate]; decide))⟩

/-- Of `P_INIT`'s cells the first of an address counts, and one that names no storage is ignored (log 23). -/
theorem test_init_cells :
    Memory.ofCells [(0xC000, 0x01), (0x4000, 0x02), (0xC000, 0x03), (0x8000, 0x04)] = [(0x8000, 0x04), (0xC000, 0x01)] := by
  decide

/-- STAT bit 2 at reset says whether LYC is 0 (R526). -/
theorem witness_ResetState : let s (lyc : Byte) := State.build ⟨[], [], {}⟩ .postBoot { Init.zero with mem := [(0xFF41, 0x87), (0xFF45, lyc)] }
    isStorage 0x8000 = true ∧ isStorage 0xFFFF = true ∧ (s 0x00).read 0xFF41 = 0x86 ∧ (s 0x01).read 0xFF41 = 0x82 := by decide

/-- A state whose every boundary address holds a byte of its own. -/
def mapped : State := { base [] with
  overlay := true
  launch := ⟨[(0xFF, 0x11), (0x100, 0x12), (0x7FFF, 0x13)], [(0x00, 0x14), (0xFF, 0x15)], { irqMode := .standard }⟩
  mem := [(0x8000, 0x21), (0xC000, 0x22), (0xDDFF, 0x23), (0xDFFF, 0x24), (0xFE00, 0x25), (0xFE9F, 0x26), (0xFF00, 0x27),
    (0xFFFF, 0x28)] }

theorem witness_BusReads :
    [0x0000, 0x00FF, 0x0100, 0x7FFF, 0x8000, 0xDFFF, 0xE000, 0xFDFF, 0xFE00, 0xFE9F, 0xFEA0, 0xFEFF, 0xFF00, 0xFFFF].map
      mapped.read =
    [0x14, 0x15, 0x12, 0x13, 0x21, 0x24, 0x22, 0x23, 0x25, 0x26, 0xFF, 0xFF, 0x27, 0x28] ∧
    { mapped with overlay := false }.read 0x00FF = 0x11 ∧ mapped.gpu.scanline < 256 := by decide

theorem witness_BusWrites : [0x8000, 0xFE9F, 0xFF00, 0xFF45, 0xFFFF].all isPlain = true ∧
    (withParams { unusableWrite := .ignore }).launch.params.unusableWrite = .ignore ∧
    (withParams {}).launch.params.dmaMode = .fault ∧
    (withParams { dmaMode := .storage }).launch.params.dmaMode = .storage ∧ mapped.memoryOk = true := by decide

theorem witness_WritesReadBack : (∃ t, mapped.write 0xDDFF 0x55 = .done t) ∧ (∃ t, mapped.write 0xFDFF 0x55 = .done t) ∧
    mapped.memoryOk = true ∧ isPlain 0xDDFF = true ∧ mapped.reaches 0xDDFF 0xDDFE = false := by
  refine ⟨⟨_, rfl⟩, ⟨_, rfl⟩, ?_⟩
  decide

theorem witness_OamDma : let s := withParams { dmaMode := .copy }
    s.launch.params.dmaMode = .copy ∧ s.memoryOk = true := by decide

theorem witness_StackRoundTrips : let s := base [0xC5]
    s.memoryOk = true ∧ s.lowNibbleClear = true ∧ isPlain (s.sp - 1) = true ∧ isPlain (s.sp - 2) = true := by decide

/-- A scheduler state in each mode, at the ends of the lines' ranges. -/
theorem witness_SchedulerFollows : [(Mode.oamRead, 0, 79, 1), (.vramRead, 143, 0, 172), (.hblank, 142, 203, 1),
    (.hblank, 143, 0, 204), (.vblank, 144, 455, 1), (.vblank, 153, 0, 456)].all (fun x =>
      { base [] with gpu := ⟨x.1, x.2.1, x.2.2.1, 0, 0⟩ }.schedulerOk &&
        x.2.2.1 + x.2.2.2 == x.1.sel 80 172 204 456) = true := by decide

theorem witness_FrameOf154Lines : let s := base []
    s.gpu.mode = .oamRead ∧ s.gpu.scanline = 0 ∧ s.gpu.acc = 0 ∧ s.memoryOk = true := by decide

theorem witness_SchedulerWrites : let s := { base [] with gpu := ⟨.hblank, 143, 203, 0, 0⟩ }
    s.memoryOk = true ∧ (sched 0 s).gpu.frameSignals = s.gpu.frameSignals ∧
    (sched 1 s).gpu.frameSignals ≠ s.gpu.frameSignals := by decide

theorem witness_registerForms : R8.b ≠ .mem ∧ R8.a ≠ .mem ∧ (AluOp.cp = .sub ∨ AluOp.cp = .sbc ∨ AluOp.cp = .cp) ∧
    (AluOp.or = .and ∨ AluOp.or = .xor ∨ AluOp.or = .or) := by decide

theorem witness_Daa : let s := { base [] with regs := { zeros with a := 0x99, f := 0x10 } }
    (99 : Nat) < 100 ∧ s.regs.a = bcd 99 ∧ s.cf = true ∧
    (AluOp.sbc = .add ∨ AluOp.sbc = .adc ∨ AluOp.sbc = .sub ∨ AluOp.sbc = .sbc) := by decide

theorem witness_Halt :
    [(base [], true, false), (interrupted 0x01 0x01, false, true),
      ({ interrupted 0x01 0x01 with ime := false }, false, false)].all (fun x =>
        x.1.launch.params.irqMode == .standard && (x.1.pending == 0) == x.2.1 && x.1.ime == x.2.2) = true ∧
    (withParams { irqMode := .failLoudly }).launch.params.irqMode = .failLoudly := by decide

theorem witness_InstructionsComplete : let s := base [0xC5]
    Instr.pushBc ≠ .halt ∧ (Instr.pushBc.stores s).all s.storable = true ∧
    (Instr.pushBc.stores { s with sp := 0x8000 }).all s.storable = false := by decide

theorem witness_everyInstruction : (∃ t, exec .pushBc (base [0xC5]) = .next t) ∧
    (∃ t, exec (.callNzA16 0x1234) (base []) = .next t) ∧ (∃ t, exec .reti (base []) = .next t) :=
  ⟨⟨_, rfl⟩, ⟨_, rfl⟩, ⟨_, rfl⟩⟩

theorem witness_OnlyStoredBytes : (Instr.pushBc.stores (base [])).all
    (fun a => !(base []).reaches a 0xFFFE) = true := by decide

theorem witness_ControlState : Instr.ldAtHlA ≠ .ei ∧ Instr.ldAtHlA ≠ .di ∧ Instr.ldAtHlA ≠ .reti ∧ Instr.ldAtHlA ≠ .halt ∧
    (0xFF50 : Word) ∉ Instr.ldAtHlA.stores (base []) ∧ Instr.ldAtHlA.writesSp = false ∧
    Instr.ldAtHlA.transfers = false := by decide

/-! ## Steps the vectors take in several, one at a time -/

theorem test_ei : goes (base [0xFB]) 4 (fun t => !t.ime && t.eiDelay == 1) = true := by decide
theorem test_after_ei : goes { base [0x00] with eiDelay := 1 } 4 (fun t => t.ime && t.eiDelay == 0) = true := by decide
theorem test_interrupt_wakes : goes { asleep with ime := true, mem := [(0xFF0F, 0x04), (0xFFFF, 0x04)] } 20
    (fun t => t.pc == 0x0050 && !t.halted && t.iflag == 0x00) = true := by decide
theorem test_daa_after_add : goes { base [0x27] with regs := { zeros with a := 0x7D, f := 0x00 } } 4
    (fun t => t.regs.a == 0x83 && t.regs.f == 0x00) = true := by decide
theorem test_daa_after_sub : goes { base [0x27] with regs := { zeros with a := 0xFF, f := 0x70 } } 4
    (fun t => t.regs.a == 0x99 && t.regs.f == 0x50) = true := by decide
theorem test_boot_write_disables_overlay : goes { base [0xE0, 0x50] with
      regs := { zeros with a := 0x01 }, overlay := true } 12 (fun t => !t.overlay) = true := by decide
set_option maxRecDepth 8192 in
theorem test_dma_copies : goes { base [0xE0, 0x46] with
      regs := { zeros with a := 0xC0 }, mem := [(0xC000, 0x12), (0xC09F, 0x34)],
      launch := ⟨Memory.ofBytes 0x0150 [0xE0, 0x46], [], { irqMode := .standard, dmaMode := .copy }⟩ } 12
    (fun t => t.read 0xFE00 == 0x12 && t.read 0xFE9F == 0x34 && t.read 0xFF46 == 0xC0) = true := by decide
theorem test_vblank_request : goes { base [0x00] with gpu := ⟨.hblank, 143, 200, 0, 0⟩ } 4
    (fun t => t.gpu.mode == .vblank && t.read 0xFF44 == 0x90 && t.iflag == 0x01) = true := by decide
theorem test_frame_wraps : goes { base [0x00] with gpu := ⟨.vblank, 153, 452, 0, 0⟩ } 4
    (fun t => t.gpu.mode == .oamRead && t.read 0xFF44 == 0x00) = true := by decide

/-! ## The host's views -/

theorem test_diagnose : (base [0xC3, 0x50, 0x01]).diagnose = ("JP a16", [0xC3, 0x50, 0x01]) := by decide
theorem test_tile_colours : (List.finRange 8).map (tileColour 0x3C 0x7E) = [0, 2, 3, 3, 3, 3, 2, 0] := by decide
theorem test_palette : [0, 1, 2, 3].map (paletteShade 0xE4) = [0, 1, 2, 3] := by decide


end Sys2Proof.Tests
end

/-! # Flag strings (00_scope.md R13, 10_state.md R35)

Each body that instructions share changes the flags as one flag string says; every instruction is one of these bodies, and
its row has that string. -/

namespace Sys2Proof

/-- What a flag string says of the four flags before and after (R13). -/
def FlagEffects.allows (e : FlagEffects) (before after : Machine.Flags) : Prop :=
  e.z.allows before.z after.z ∧ e.n.allows before.n after.n ∧ e.h.allows before.h after.h ∧ e.c.allows before.c after.c

/-- The flag string of an ALU operation (41_alu8.md R252 to R275). -/
def AluOp.flagString : AluOp → FlagEffects
  | .add | .adc => .fz0hc
  | .sub | .sbc | .cp => .fz1hc
  | .and => .fz010
  | .xor | .or => .fz000

/-- The flag string of a CB rotate or shift (43_rotate_shift_bit.md R335 to R350). -/
def RotOp.flagString : RotOp → FlagEffects
  | .swap => .fz000
  | .rlc | .rrc | .rl | .rr | .sla | .sra | .srl => .fz00c

end Sys2Proof

namespace Sys2Proof.Machine

/-! ## The flags of a state -/

@[simp] theorem State.flags_setFlags (s : State) (f : Flags) : (s.setFlags f).flags = f := by
  simp only [State.flags, State.setFlags_regs, Flags.ofByte, Flags.pack_z, Flags.pack_n, Flags.pack_h, Flags.pack_c]

@[simp] theorem Regs.put_f (r : Regs) (y : R8) (v : Byte) : (r.put y v).f = r.f := by
  cases y <;> rfl

/-! ## Flag computations -/

theorem inc8_allows (v : Byte) (f : Flags) : FlagEffects.fz0h_.allows f (inc8 v f).2 :=
  ⟨trivial, rfl, trivial, rfl⟩

theorem dec8_allows (v : Byte) (f : Flags) : FlagEffects.fz1h_.allows f (dec8 v f).2 :=
  ⟨trivial, rfl, trivial, rfl⟩

theorem alu_allows (op : AluOp) (a v : Byte) (cin : Bool) (f : Flags) : op.flagString.allows f (alu op a v cin).2 := by
  cases op with
  | add | adc | sub | sbc | cp => exact ⟨trivial, rfl, trivial, trivial⟩
  | and | xor | or => exact ⟨trivial, rfl, rfl, rfl⟩

theorem rotate_allows (op : RotOp) (v : Byte) (cin : Bool) (f : Flags) :
    op.flagString.allows f (rotateFlags (rotate op v cin).1 (rotate op v cin).2) := by
  cases op with
  | swap => exact ⟨trivial, rfl, rfl, rfl⟩
  | rlc | rrc | rl | rr | sla | sra | srl => exact ⟨trivial, rfl, rfl, trivial⟩

/-! ## Bodies -/

/-- Wherever `body` is done, it has changed the flags as the flag string `e` says. -/
def FlagsFollow (body : State → Effect) (e : FlagEffects) : Prop :=
  ∀ ⦃s t : State⦄, body s = .done t → e.allows s.flags t.flags

theorem flagsFollow_computed (body : State → Effect) : FlagsFollow body .fznhc :=
  fun _ _ _ => ⟨trivial, trivial, trivial, trivial⟩

theorem flagsFollow_none {body : State → Effect} (hf : ∀ s t, body s = .done t → t.regs.f = s.regs.f) :
    FlagsFollow body .none := by
  intro s t h
  rw [State.flags, State.flags, hf s t h]
  exact ⟨rfl, rfl, rfl, rfl⟩

/-- A body that writes state other than F, without a bus write. -/
theorem flagsFollow_done {g : State → State} (hf : ∀ s, (g s).regs.f = s.regs.f) :
    FlagsFollow (fun s => .done (g s)) .none :=
  flagsFollow_none fun s t h => by cases h; exact hf s

/-- A body that ends in writing the flags, without a bus write. -/
theorem flagsFollow_setFlags {g : State → State} {f : State → Flags} {e : FlagEffects}
    (hf : ∀ s, e.allows s.flags (f s)) : FlagsFollow (fun s => .done ((g s).setFlags (f s))) e := by
  intro s t h
  cases h
  rw [State.flags_setFlags]
  exact hf s

theorem flagsFollow_write {a : State → Word} {v : State → Byte} : FlagsFollow (fun s => s.write (a s) (v s)) .none :=
  flagsFollow_none fun _ _ h => congrArg Regs.f (State.write_keeps h).1

theorem flagsFollow_put8 (y : R8) (v : State → Byte) : FlagsFollow (fun s => s.put8 y (v s)) .none := by
  by_cases hy : y = .mem
  · subst hy
    exact flagsFollow_write
  · refine flagsFollow_none fun s t h => ?_
    rw [State.put8_register hy] at h
    cases h
    exact Regs.put_f ..

theorem flagsFollow_storeAStep (delta : Word) : FlagsFollow (storeAStep delta) .none :=
  flagsFollow_none fun _ _ h => by
    obtain ⟨u, hu, ht⟩ := Effect.andThen_eq_done.1 h
    cases ht
    rw [← (State.write_keeps hu).1]
    rfl

theorem flagsFollow_write16 (a : Word) (v : State → Word) : FlagsFollow (fun s => s.write16 a (v s)) .none :=
  flagsFollow_none fun _ _ h => by
    obtain ⟨u, hu, ht⟩ := Effect.andThen_eq_done.1 h
    rw [(State.write_keeps ht).1, (State.write_keeps hu).1]

theorem State.push16_regs {s t : State} {v : Word} (h : s.push16 v = .done t) : t.regs = s.regs := by
  obtain ⟨u, hu, ht⟩ := State.push16_done h
  rw [(State.write_keeps ht).1, (State.write_keeps hu).1]

theorem flagsFollow_push (p : RStk) : FlagsFollow (push p) .none :=
  flagsFollow_none fun _ _ h => congrArg Regs.f (State.push16_regs h)

theorem flagsFollow_call (target : Word) : FlagsFollow (call target) .none :=
  flagsFollow_none fun _ _ h => by
    obtain ⟨u, hu, ht⟩ := Effect.andThen_eq_done.1 h
    cases ht
    rw [← State.push16_regs hu]

theorem flagsFollow_halt (pc0 : Word) : FlagsFollow (halt pc0) .none :=
  flagsFollow_none fun s _ h => by
    unfold halt at h
    split at h
    · cases h
    · split at h
      · cases h; rfl
      · split at h <;> cases h
        rfl

/-- A read-modify-write takes its flags from the function it applies. -/
theorem flagsFollow_modify {y : R8} {f : Byte → Flags → Byte × Flags} {e : FlagEffects}
    (hf : ∀ v g, e.allows g (f v g).2) : FlagsFollow (modify y f) e := by
  intro s t h
  obtain ⟨u, -, ht⟩ := Effect.andThen_eq_done.1 h
  cases ht
  rw [State.flags_setFlags]
  exact hf _ _

theorem flagsFollow_rotateOperand (op : RotOp) (z : R8) : FlagsFollow (rotateOperand op z) op.flagString :=
  flagsFollow_modify fun v g => rotate_allows op v g.c g

theorem flagsFollow_aluValue (op : AluOp) (v : State → Byte) :
    FlagsFollow (fun s => aluValue op (v s) s) op.flagString :=
  flagsFollow_setFlags fun s => alu_allows op _ _ _ s.flags

/-! ## Instructions -/

theorem instr_flags {e : FlagEffects} {body : State → Effect} {len n : Nat} {s t : State}
    (h : instr len n body s = .next t) (hb : FlagsFollow body e) : e.allows s.flags t.flags := by
  obtain ⟨u, hu, rfl⟩ := instr_eq_next.1 h
  exact (hb hu :)

/-- A conditional transfer changes no flag, taken or not. -/
theorem instrIf_flags {cc : Cond} {body : State → Effect} {len n m : Nat} {s t : State}
    (h : instrIf cc len n m body s = .next t) (hb : FlagsFollow body .none) :
    FlagEffects.none.allows s.flags t.flags := by
  unfold instrIf at h
  split at h
  · exact instr_flags h hb
  · exact instr_flags h (flagsFollow_done fun _ => rfl)

/-- Every instruction changes the flags as its row says: each case names the body that is the instruction's meaning. -/
theorem exec_flags {i : Instr} {s t : State} (h : exec i s = .next t) :
    i.descriptor.flags.allows s.flags t.flags := by
  unfold exec at h
  cases i with
  -- no flag is written, nor a byte of memory
  | nop | undefinedD3 | undefinedDB | undefinedDD | undefinedE3 | undefinedE4 | undefinedEB | undefinedEC
  | undefinedED | undefinedF4 | undefinedFC | undefinedFD | di | ldSpHl | ldBcN16 | ldDeN16 | ldHlN16 | ldSpN16
  | incBc | incDe | incHl | incSp | decBc | decDe | decHl | decSp | ldAAtBc | ldAAtDe | ldhAAtA8 | ldAAtC | ldAAtA16
  | ldAAtHli | ldAAtHld | popBc | popDe | popHl | jpA16 | jrE8 | jpHl | ret | reti =>
    exact instr_flags h (flagsFollow_done fun _ => rfl)
  | jpNzA16 | jpZA16 | jpNcA16 | jpCA16 | jrNzE8 | jrZE8 | jrNcE8 | jrCE8 | retNz | retZ | retNc | retC =>
    exact instrIf_flags h (flagsFollow_done fun _ => rfl)
  | ei => exact instr_flags h (flagsFollow_done fun _ => by split <;> rfl)
  | halt => exact instr_flags h (flagsFollow_halt _)
  | stop => cases h
  -- bytes of memory are written, and no flag
  | ldAtBcA | ldAtDeA | ldhAtA8A | ldAtCA | ldAtA16A => exact instr_flags h flagsFollow_write
  | ldAtHliA | ldAtHldA => exact instr_flags h (flagsFollow_storeAStep _)
  | ldAtA16Sp => exact instr_flags h (flagsFollow_write16 _ _)
  | pushBc | pushDe | pushHl | pushAf => exact instr_flags h (flagsFollow_push _)
  | rst00 | callA16 | rst08 | rst10 | rst18 | rst20 | rst28 | rst30 | rst38 =>
    exact instr_flags h (flagsFollow_call _)
  | callNzA16 | callZA16 | callNcA16 | callCA16 => exact instrIf_flags h (flagsFollow_call _)
  -- the four flags come from the stack
  | popAf => exact instr_flags h (flagsFollow_computed _)
  -- arithmetic, logic, rotates and BIT write the flags they compute
  | addAB | addAC | addAD | addAE | addAH | addAL | addAAtHl | addAA | adcAB | adcAC | adcAD | adcAE | adcAH
  | adcAL | adcAAtHl | adcAA | subB | subC | subD | subE | subH | subL | subAtHl | subA | sbcAB | sbcAC | sbcAD
  | sbcAE | sbcAH | sbcAL | sbcAAtHl | sbcAA | andB | andC | andD | andE | andH | andL | andAtHl | andA | xorB
  | xorC | xorD | xorE | xorH | xorL | xorAtHl | xorA | orB | orC | orD | orE | orH | orL | orAtHl | orA | cpB | cpC
  | cpD | cpE | cpH | cpL | cpAtHl | cpA | addAN8 | adcAN8 | subN8 | sbcAN8 | andN8 | xorN8 | orN8 | cpN8 =>
    exact instr_flags h (flagsFollow_aluValue _ _)
  | incB | incC | incD | incE | incH | incL | incAtHl | incA => exact instr_flags h (flagsFollow_modify inc8_allows)
  | decB | decC | decD | decE | decH | decL | decAtHl | decA => exact instr_flags h (flagsFollow_modify dec8_allows)
  | daa => exact instr_flags h (flagsFollow_setFlags fun _ => ⟨trivial, rfl, rfl, trivial⟩)
  | cpl | scf => exact instr_flags h (flagsFollow_setFlags fun _ => ⟨rfl, rfl, rfl, rfl⟩)
  | ccf => exact instr_flags h (flagsFollow_setFlags fun _ => ⟨rfl, rfl, rfl, trivial⟩)
  | addHlBc | addHlDe | addHlHl | addHlSp | addSpE8 | ldHlSpE8 =>
    exact instr_flags h (flagsFollow_setFlags fun _ => ⟨rfl, rfl, trivial, trivial⟩)
  | rlca | rrca | rla | rra => exact instr_flags h (flagsFollow_setFlags fun _ => ⟨rfl, rfl, rfl, trivial⟩)
  | rlcB | rlcC | rlcD | rlcE | rlcH | rlcL | rlcAtHl | rlcA | rrcB | rrcC | rrcD | rrcE | rrcH | rrcL | rrcAtHl
  | rrcA | rlB | rlC | rlD | rlE | rlH | rlL | rlAtHl | rlA | rrB | rrC | rrD | rrE | rrH | rrL | rrAtHl | rrA
  | slaB | slaC | slaD | slaE | slaH | slaL | slaAtHl | slaA | sraB | sraC | sraD | sraE | sraH | sraL | sraAtHl
  | sraA | swapB | swapC | swapD | swapE | swapH | swapL | swapAtHl | swapA | srlB | srlC | srlD | srlE | srlH
  | srlL | srlAtHl | srlA => exact instr_flags h (flagsFollow_rotateOperand _ _)
  | bit0B | bit0C | bit0D | bit0E | bit0H | bit0L | bit0AtHl | bit0A | bit1B | bit1C | bit1D | bit1E | bit1H
  | bit1L | bit1AtHl | bit1A | bit2B | bit2C | bit2D | bit2E | bit2H | bit2L | bit2AtHl | bit2A | bit3B | bit3C
  | bit3D | bit3E | bit3H | bit3L | bit3AtHl | bit3A | bit4B | bit4C | bit4D | bit4E | bit4H | bit4L | bit4AtHl
  | bit4A | bit5B | bit5C | bit5D | bit5E | bit5H | bit5L | bit5AtHl | bit5A | bit6B | bit6C | bit6D | bit6E | bit6H
  | bit6L | bit6AtHl | bit6A | bit7B | bit7C | bit7D | bit7E | bit7H | bit7L | bit7AtHl | bit7A =>
    exact instr_flags h (flagsFollow_setFlags fun _ => ⟨trivial, rfl, rfl, rfl⟩)
  -- LD r,r', LD r,n8, RES and SET write one operand
  | _ => exact instr_flags h (flagsFollow_put8 _ _)

/-- Settles O56: `exec_flags`, whose `FlagEffects.allows` is the statement's conjunction. -/
theorem flagStringsAreComplete : Obligations.FlagStringsAreComplete :=
  fun _ _ _ h => exec_flags h

end Sys2Proof.Machine

/-! # What a step keeps (10_state.md R33, R36 to R46)

`Keeps` is the part of a step's frame that the execution of an instruction and the dispatch of an interrupt share, in the
next state and in the state a fault leaves; `step_ends` adds the scheduler, and each invariant is a use of it. -/

namespace Sys2Proof.Machine

/-! ## The frame of execution and dispatch -/

/-- What the machine keeps short of the scheduler: a clear low nibble of F, canonical memory, the scheduler's state, the
launch inputs, and an overlay that is off. -/
structure Keeps (s t : State) : Prop where
  low : s.regs.f &&& 0x0F = 0 → t.regs.f &&& 0x0F = 0
  memory : s.memoryOk = true → t.memoryOk = true
  gpu : t.gpu = s.gpu
  launch : t.launch = s.launch
  overlay : s.overlay = false → t.overlay = false

theorem Keeps.refl (s : State) : Keeps s s := ⟨id, id, rfl, rfl, id⟩

theorem Keeps.trans {s t u : State} (h : Keeps s t) (k : Keeps t u) : Keeps s u :=
  ⟨k.low ∘ h.low, k.memory ∘ h.memory, k.gpu.trans h.gpu, k.launch.trans h.launch, k.overlay ∘ h.overlay⟩

theorem Keeps.congr {s t u : State} (k : Keeps s t) (hr : u.regs = t.regs) (hm : u.mem = t.mem) (hg : u.gpu = t.gpu)
    (hl : u.launch = t.launch) (ho : u.overlay = t.overlay) : Keeps s u where
  low h := hr ▸ k.low h
  memory h := (State.memoryOk_congr hm hl).trans (k.memory h)
  gpu := hg.trans k.gpu
  launch := hl.trans k.launch
  overlay h := ho.trans (k.overlay h)

/-- SP, PC, the control bits, the latched fault and the count may change. -/
theorem Keeps.control {s t : State} {p q : Word} {b h : Bool} {d : Fin 3} {f : Option FaultRecord} {n : Nat}
    (k : Keeps s t) :
    Keeps s { t with sp := p, pc := q, ime := b, eiDelay := d, halted := h, fault := f, cycles := n } :=
  k.congr rfl rfl rfl rfl rfl

theorem Keeps.setRegs {s t : State} (k : Keeps s t) {r : Regs} (low : s.regs.f &&& 0x0F = 0 → r.f &&& 0x0F = 0) :
    Keeps s { t with regs := r } :=
  ⟨low, k.memory, k.gpu, k.launch, k.overlay⟩

theorem Keeps.countdown {s t : State} (k : Keeps s t) : Keeps s t.countdown :=
  k.congr t.countdown_regs t.countdown_mem t.countdown_gpu t.countdown_launch t.countdown_overlay

/-! ## Effects -/

/-- `P` of the state an effect ends in, be it done or raising a fault; `Ends` for effects. -/
def Effect.Ends (e : Effect) (P : State → Prop) : Prop :=
  match e with
  | .done t => P t
  | .raise _ t => P t

theorem Effect.Ends.imp {e : Effect} {P Q : State → Prop} (h : e.Ends P) (k : ∀ t, P t → Q t) : e.Ends Q := by
  cases e with
  | done t => exact k t h
  | raise _ t => exact k t h

theorem Effect.andThen_ends {e : Effect} {k : State → Effect} {P : State → Prop} (he : e.Ends P)
    (hk : ∀ t, P t → (k t).Ends P) : (e.andThen k).Ends P := by
  cases e with
  | done t => exact hk t he
  | raise _ t => exact he

theorem ends_ofRecord {r : FaultRecord} {t : State} {P : State → Prop} :
    Ends (.fault (Fault.ofRecord r t)) P ↔ P t := by
  rw [show Ends (.fault (Fault.ofRecord r t)) P = P (Fault.ofRecord r t).left from rfl, Fault.left_ofRecord]

theorem raiseFault_keeps {s t : State} {x : FaultKind} {pc0 : Word} (k : Keeps s t) :
    Ends (raiseFault x pc0 t) (Keeps s) :=
  ends_ofRecord.2 k.control

theorem conclude_keeps {s : State} {e : Effect} {pc0 : Word} {n : Nat} (h : e.Ends (Keeps s)) :
    Ends (conclude pc0 n e) (Keeps s) := by
  cases e with
  | done t => exact Keeps.control h
  | raise x t => exact raiseFault_keeps h

/-! ## Stores, pushes, HALT and dispatch -/

theorem State.write_ends {s t : State} {a : Word} {v : Byte} (k : Keeps s t) : (t.write a v).Ends (Keeps s) := by
  cases h : t.write a v with
  | done u =>
    obtain ⟨m, o, rfl, -, ho⟩ := State.write_eq h
    exact k.trans ⟨id, State.write_memoryOk h, rfl, rfl, ho⟩
  | raise x u =>
    obtain ⟨rfl, -⟩ := State.write_raise h
    exact k

theorem State.write16_ends {s t : State} {a v : Word} (k : Keeps s t) : (t.write16 a v).Ends (Keeps s) :=
  Effect.andThen_ends (State.write_ends k) fun _ k => State.write_ends k

theorem State.push16_ends {s t : State} {v : Word} (k : Keeps s t) : (t.push16 v).Ends (Keeps s) :=
  Effect.andThen_ends (State.write_ends k.control) fun _ k => State.write_ends k.control

theorem storeOutcome_keeps {s : State} {a : Word} {v : Byte} {len n : Nat} {r : Regs}
    (low : s.regs.f &&& 0x0F = 0 → r.f &&& 0x0F = 0) :
    Ends (storeOutcome s a v (BitVec.ofNat 16 len) n r) (Keeps s) := by
  rw [← store_outcome s a v len n (fun _ => r) (fun _ _ => rfl)]
  exact conclude_keeps (Effect.andThen_ends (State.write_ends (Keeps.refl s).control) fun _ k => k.setRegs low)

theorem pushOutcome_keeps {s : State} {v target : Word} {len n : Nat} :
    Ends (pushOutcome s v (BitVec.ofNat 16 len) target n) (Keeps s) := by
  rw [← push_outcome s v len n (fun u => .done { u with pc := target }) target (fun _ => rfl)]
  exact conclude_keeps (Effect.andThen_ends (State.push16_ends (Keeps.refl s).control) fun _ k => k.control)

/-- HALT completes with some `halted`, or faults and leaves the state (45_system.md R421). -/
theorem halt_ends (pc0 : Word) (s : State) : (halt pc0 s).Ends fun t => ∃ b, t = { s with halted := b } := by
  unfold halt
  split
  · exact ⟨_, rfl⟩
  · split
    · exact ⟨_, rfl⟩
    · split <;> exact ⟨s.halted, rfl⟩

theorem State.dispatch_ends (s : State) (p : BitVec 5) : (s.dispatch p).Ends (Keeps s) := by
  have clear : Keeps s (s.setByte 0xFF0F (s.iflag &&& ~~~((1 : Byte) <<< irqIndex p))) :=
    ⟨id, fun h => State.memoryOk_write h rfl, rfl, rfl, id⟩
  exact Effect.andThen_ends (State.push16_ends clear.control) fun _ k => k.control

theorem State.interrupt_keeps (s : State) : Ends s.interrupt (Keeps s) := by
  unfold State.interrupt
  split
  · exact raiseFault_keeps (.refl s)
  · exact conclude_keeps (s.dispatch_ends _)

/-! ## Every instruction and every step -/

theorem exec_keeps (i : Instr) (s : State) : Ends (exec i s) (Keeps s) := by
  cases exec_shape i s with
  | registers r p q b d eq _ low => rw [eq]; exact ((Keeps.refl s).setRegs low).control
  | store a v r eq _ low => rw [eq]; exact storeOutcome_keeps low
  | push v q eq => rw [eq]; exact pushOutcome_keeps
  | store16 a eq => subst eq; exact conclude_keeps (State.write16_ends (Keeps.refl s).control)
  | halt eq =>
    subst eq
    refine conclude_keeps ((halt_ends _ _).imp ?_)
    rintro _ ⟨b, rfl⟩
    exact (Keeps.refl s).control
  | stop n eq => subst eq; exact raiseFault_keeps (Keeps.refl s).control

theorem mapNext_ends {o : Out} {g : State → State} {P Q : State → Prop} (h : Ends o P) (next : ∀ t, P t → Q (g t))
    (fault : ∀ t, P t → Q t) : Ends (mapNext g o) Q := by
  cases o with
  | next t => exact next t h
  | fault f => exact fault f.left h
  | refused r => trivial

/-- What follows from `Keeps` and survives the scheduler holds wherever a step ends. -/
theorem step_ends {s : State} {P : State → Prop} (keeps : ∀ t, Keeps s t → P t)
    (scheduled : ∀ c t, P t → P (sched c t)) : Ends (step s) P := by
  have woken : Keeps s { s with halted := false } := (Keeps.refl s).control
  refine step_cases (P := fun o => Ends o P) (fun r _ => ?latched) (fun _ _ _ => ?waits) (fun _ _ _ => ?interrupts)
    (fun _ _ _ => ?executes)
  case latched => exact ends_ofRecord.2 (keeps s (.refl s))
  case waits => exact scheduled _ _ (keeps _ (Keeps.refl s).control)
  case interrupts =>
    exact mapNext_ends (State.interrupt_keeps _) (fun t k => scheduled _ _ (keeps t (woken.trans k)))
      fun t k => keeps t (woken.trans k)
  case executes =>
    exact mapNext_ends (exec_keeps _ _) (fun t k => scheduled _ _ (keeps _ (woken.trans k).countdown))
      fun t k => keeps t (woken.trans k)

/-! ## The invariants -/

theorem State.lowNibbleClear_iff (s : State) : s.lowNibbleClear = true ↔ s.regs.f &&& 0x0F = 0 := beq_iff_eq

/-- Settles O14: instructions keep the low nibble clear, and the scheduler does not write F. -/
theorem flagLowNibbleStaysZero : Obligations.FlagLowNibbleStaysZero := by
  intro s h
  simp only [State.lowNibbleClear_iff] at h ⊢
  exact step_ends (fun _ k => k.low h) fun c t ht => by rw [sched_eq]; exact ht

/-- Settles O18: execution keeps both, and the scheduler writes neither. -/
theorem launchInputsAndOverlayAreOneWay : Obligations.LaunchInputsAndOverlayAreOneWay := fun s =>
  step_ends (fun _ k => ⟨k.launch, k.overlay⟩) fun c t ht => by rw [sched_eq]; exact ht

theorem State.transition_memoryOk {s : State} (h : s.memoryOk = true) : s.transition.memoryOk = true := by
  rcases s.transition_mem with ⟨hm, -⟩ | ⟨hm, -⟩
  · exact (State.memoryOk_congr hm s.transition_launch).trans h
  · rw [State.memoryOk_congr (s := s.setByte 0xFF0F (s.iflag ||| 0x01)) hm s.transition_launch]
    exact State.memoryOk_write h rfl

theorem sched_memoryOk {c : Nat} {s : State} (h : s.memoryOk = true) : (sched c s).memoryOk = true :=
  sched_induction (P := fun u => u.memoryOk = true) h fun _ hu _ => State.transition_memoryOk hu

/-- Settles O15: bus writes and the VBlank request keep the canonical form. -/
theorem memoryStaysCanonical : Obligations.MemoryStaysCanonical := fun _ h =>
  step_ends (fun _ k => k.memory h) fun _ _ => sched_memoryOk

/-- Line and mode are one point of the frame's sequence (10_state.md R46). -/
def Gpu.onFrame (g : Gpu) : Prop :=
  g.scanline < totalLines ∧ (visibleLines ≤ g.scanline ↔ g.mode = .vblank)

theorem State.schedulerOk_iff (s : State) :
    s.schedulerOk = true ↔ s.gpu.onFrame ∧ s.gpu.acc < s.gpu.mode.duration := by
  simp only [State.schedulerOk, Gpu.onFrame, totalLines, visibleLines, Bool.and_eq_true, decide_eq_true_eq, beq_iff_eq]
  rw [Bool.eq_iff_iff, decide_eq_true_iff, beq_iff_eq]

/-- A transition goes to the next point: within the line, to the next line of the same part of the frame, into VBLANK, or
back to line 0 (60_exceptions.md R470, R471). -/
theorem State.transition_onFrame {s : State} (h : s.gpu.onFrame) : s.transition.gpu.onFrame := by
  unfold Gpu.onFrame State.transition totalLines visibleLines at *
  cases hm : s.gpu.mode with
  | oamRead | vramRead => simpa [hm] using h
  | hblank =>
    simp only [hm, State.nextLine_gpu, reduceCtorEq, iff_false] at h ⊢
    split
    · next e => simp [e]
    · simp only [State.setMode_gpu, State.nextLine_gpu, reduceCtorEq, iff_false]
      omega
  | vblank =>
    simp only [hm, State.nextLine_gpu, iff_true] at h ⊢
    split
    · simp
    · simp only [State.nextLine_gpu, hm, iff_true]
      omega

/-- Settles O16: every transition goes from one point of the frame to another, and the loop ends below the duration. -/
theorem schedulerStaysInTheFrameSequence : Obligations.SchedulerStaysInTheFrameSequence := by
  intro s h
  refine step_ends (fun t k => ?_) fun c t ht => ?_
  · rwa [State.schedulerOk_iff, k.gpu, ← State.schedulerOk_iff]
  · rw [State.schedulerOk_iff] at ht ⊢
    exact ⟨sched_induction (P := fun u => u.gpu.onFrame) ht.1 fun _ hu _ => State.transition_onFrame hu, sched_acc c t⟩

/-! ## The writers of the control state -/

theorem exec_ldAtA16Sp (a : Word) (s : State) :
    exec (.ldAtA16Sp a) s = instr 3 20 (fun t => t.write16 a t.sp) s := rfl

theorem exec_halt (s : State) : exec .halt s = instr 1 4 (halt s.pc) s := rfl

/-- Two writes in a row, SP moved between them or not, change `mem` and, for BOOT, the overlay. -/
theorem State.write_write_eq {s t u : State} {a b q : Word} {v w : Byte} (hu : s.write a v = .done u)
    (ht : State.write { u with sp := q } b w = .done t) :
    ∃ m o, t = { s with sp := q, mem := m, overlay := o } ∧ (0xFF50 ∉ [a, b] → o = s.overlay) := by
  obtain ⟨m, o, rfl, ho, -⟩ := State.write_eq hu
  obtain ⟨m', o', rfl, ho', -⟩ := State.write_eq ht
  refine ⟨m', o', rfl, fun hn => ?_⟩
  simp only [List.mem_cons, List.not_mem_nil, or_false, not_or] at hn
  rw [ho' (Ne.symm hn.2), ho (Ne.symm hn.1)]

/-- Settles O59, by the shape of the instruction: registers, one store, a push, two stores, HALT or STOP. -/
theorem controlStateHasItsWriters : Obligations.ControlStateHasItsWriters := by
  intro i s t h
  cases exec_shape i s with
  | registers r p q b d eq _ _ _ sp control =>
    rw [eq] at h
    cases h
    exact ⟨rfl, rfl, rfl, control, fun _ => rfl, fun _ => rfl, sp⟩
  | store a v r eq stores =>
    obtain ⟨u, hu, rfl⟩ := storeOutcome_eq_next (eq.symm.trans h)
    obtain ⟨m, o, rfl, ho, -⟩ := State.write_eq hu
    rw [stores]
    exact ⟨rfl, rfl, rfl, fun _ _ _ => ⟨rfl, rfl⟩, fun _ => rfl, fun hn => ho (List.ne_of_not_mem_cons hn).symm,
      fun _ => rfl⟩
  | push v q eq stores _ sp =>
    obtain ⟨u, w, hu, hw, rfl⟩ := pushOutcome_eq_next (eq.symm.trans h)
    obtain ⟨m, o, rfl, ho⟩ := State.write_write_eq hu hw
    rw [stores]
    exact ⟨rfl, rfl, rfl, fun _ _ _ => ⟨rfl, rfl⟩, fun _ => rfl, ho, fun hs => by simp [sp] at hs⟩
  | store16 a eq =>
    subst eq
    rw [exec_ldAtA16Sp] at h
    obtain ⟨t, ht, rfl⟩ := instr_eq_next.1 h
    obtain ⟨u, hu, ht⟩ := Effect.andThen_eq_done.1 ht
    obtain ⟨-, sp, -⟩ := State.write_keeps hu
    obtain ⟨m, o, rfl, ho⟩ := State.write_write_eq hu ht
    exact ⟨rfl, rfl, rfl, fun _ _ _ => ⟨rfl, rfl⟩, fun _ => rfl, ho, fun _ => sp⟩
  | halt eq =>
    subst eq
    rw [exec_halt] at h
    obtain ⟨u, hu, rfl⟩ := instr_eq_next.1 h
    obtain ⟨b, rfl⟩ : Effect.Ends (.done u) _ := hu ▸ halt_ends _ _
    exact ⟨rfl, rfl, rfl, fun _ _ _ => ⟨rfl, rfl⟩, fun n => absurd rfl n, fun _ => rfl, fun _ => rfl⟩
  | stop n eq => subst eq; cases h

end Sys2Proof.Machine

/-! # Memory (20_memory.md)

The bus, region by region: what a read returns, what a write does, and what it leaves unread. Then every instruction: it
completes where its stores can be written, and changes the bytes that they reach. -/

namespace Sys2Proof.Machine

/-! ## Reads, region by region (20_memory.md R102) -/

theorem home_echo {a : Word} (h : 0xE000 ≤ a.toNat) (h2 : a.toNat < 0xFE00) : home a = a.toNat - 0x2000 :=
  if_pos ⟨h, h2⟩

theorem home_of_not_echo {a : Word} (h : a.toNat < 0xE000 ∨ 0xFE00 ≤ a.toNat) : home a = a.toNat :=
  if_neg (by omega)

theorem State.read_boot {s : State} {a : Word} (h : a.toNat < 0x100) (ho : s.overlay = true) :
    s.read a = s.launch.boot.read a.toNat := by
  simp only [State.read, region, if_pos h, if_pos ho]

theorem State.read_rom {s : State} {a : Word} (h : a.toNat < 0x8000) (ho : 0x100 ≤ a.toNat ∨ s.overlay = false) :
    s.read a = s.launch.cart.read a.toNat := by
  have r : region s.overlay a = .rom := by
    by_cases h1 : a.toNat < 0x100
    · have off : s.overlay = false := ho.resolve_left (by omega)
      simp only [region, if_pos h1, off, Bool.false_eq_true, if_false]
    · simp only [region, if_neg h1, if_pos h]
  simp only [State.read, r]

theorem State.read_unusable {s : State} {a : Word} (h : 0xFEA0 ≤ a.toNat) (h2 : a.toNat < 0xFF00) :
    s.read a = 0xFF := by
  have r := region_covers s.overlay a
  cases hr : region s.overlay a <;> rw [hr] at r <;> simp only [Region.covers] at r <;> try omega
  simp only [State.read, hr]

/-- RAM, the echo and OAM are read from the storage they name. -/
theorem State.read_ram {s : State} {a : Word} (lo : 0x8000 ≤ a.toNat) (hi : a.toNat < 0xFEA0) : s.read a = s.byte a := by
  have ne {b : Word} (h : 0xFF00 ≤ b.toNat) : a ≠ b := by rintro rfl; omega
  exact State.read_storage lo (by omega) (ne (by decide)) (ne (by decide))

theorem State.read_ly (s : State) : s.read 0xFF44 = BitVec.ofNat 8 s.gpu.scanline := rfl

theorem State.read_stat (s : State) : s.read 0xFF41 = s.stat := rfl

/-! ### STAT, bit by bit (R114) -/

theorem State.stat_stored (s : State) : s.stat.extractLsb' 3 5 = (s.mem.read 0xFF41).extractLsb' 3 5 := by
  have mask : (0xF8 : Byte).extractLsb' 3 5 = BitVec.allOnes 5 := rfl
  have code : s.gpu.mode.code.extractLsb' 3 5 = 0#5 := by cases s.gpu.mode <;> rfl
  have coincidence : (if s.gpu.scanline = (s.byte 0xFF45).toNat then 0x04 else 0x00 : Byte).extractLsb' 3 5 = 0#5 := by
    split <;> rfl
  rw [State.stat, BitVec.extractLsb'_or, BitVec.extractLsb'_or, BitVec.extractLsb'_and, mask, code, coincidence,
    BitVec.and_allOnes, BitVec.or_zero, BitVec.or_zero]
  rfl

theorem State.stat_coincidence (s : State) :
    s.stat.getLsbD 2 = true ↔ s.gpu.scanline = (s.mem.read 0xFF45).toNat := by
  have mask : (0xF8 : Byte).getLsbD 2 = false := rfl
  have code : s.gpu.mode.code.getLsbD 2 = false := by cases s.gpu.mode <;> rfl
  rw [State.stat, BitVec.getLsbD_or, BitVec.getLsbD_or, BitVec.getLsbD_and, mask, code, Bool.and_false, Bool.false_or,
    Bool.or_false, show s.byte 0xFF45 = s.mem.read 0xFF45 from rfl]
  split
  · next e => exact iff_of_true rfl e
  · next e => exact iff_of_false (by decide) e

theorem State.stat_mode (s : State) : s.stat.extractLsb' 0 2 = s.gpu.mode.sel 2#2 3#2 0#2 1#2 := by
  have mask : (0xF8 : Byte).extractLsb' 0 2 = 0#2 := rfl
  have code : s.gpu.mode.code.extractLsb' 0 2 = s.gpu.mode.sel 2#2 3#2 0#2 1#2 := by cases s.gpu.mode <;> rfl
  have coincidence : (if s.gpu.scanline = (s.byte 0xFF45).toNat then 0x04 else 0x00 : Byte).extractLsb' 0 2 = 0#2 := by
    split <;> rfl
  rw [State.stat, BitVec.extractLsb'_or, BitVec.extractLsb'_or, BitVec.extractLsb'_and, mask, code, coincidence,
    BitVec.and_zero, BitVec.or_zero, BitVec.zero_or]

/-- Settles O22: one lemma per region, and STAT by its three fields. -/
theorem busReadsFollowTheAddressMap : Obligations.BusReadsFollowTheAddressMap := by
  intro s a
  refine ⟨State.read_boot, State.read_rom, fun h h2 => ?ram, fun h h2 => ?echo, fun h h2 => ?oam, State.read_unusable,
    fun h h3 h4 => ?io, fun h => ?ly, s.stat_stored, s.stat_coincidence, s.stat_mode⟩
  case ram => rw [State.read_ram h (by omega), State.byte, home_of_not_echo (.inl h2)]
  case echo => rw [State.read_ram (by omega) (by omega), State.byte, home_echo h h2]
  case oam => rw [State.read_ram (by omega) h2, State.byte, home_of_not_echo (.inr h)]
  case io => rw [State.read_storage (by omega) (by omega) h3 h4, State.byte, home_of_not_echo (.inr (by omega))]
  case ly => rw [State.read_ly, BitVec.toNat_ofNat, Nat.mod_eq_of_lt h]

/-! ## Writes, region by region (20_memory.md R103) -/

theorem isPlain_iff (a : Word) : isPlain a = true ↔ 0x8000 ≤ a.toNat ∧ ¬(0xFEA0 ≤ a.toNat ∧ a.toNat < 0xFF00) ∧
    a ≠ 0xFF04 ∧ a ≠ 0xFF41 ∧ a ≠ 0xFF44 ∧ a ≠ 0xFF46 ∧ a ≠ 0xFF50 := by
  simp only [isPlain, Bool.and_eq_true, Bool.not_eq_true', Bool.and_eq_false_imp, decide_eq_true_eq,
    decide_eq_false_iff_not, bne_iff_ne, and_assoc, not_and]

theorem State.write_plain {s : State} {a : Word} {v : Byte} (h : isPlain a = true) :
    s.write a v = .done (s.setByte a v) := by
  obtain ⟨lo, gap, div, -, ly, dma, boot⟩ := (isPlain_iff a).1 h
  by_cases io : 0xFF00 ≤ a.toNat ∧ a.toNat < 0xFF80
  · rw [State.write_io io.1 io.2, State.ioWrite, if_neg div, if_neg ly, if_neg dma, if_neg boot]
  · exact State.write_ram lo (by omega)

theorem State.memoryOk_wf {s : State} (h : s.memoryOk = true) : s.mem.wf = true :=
  ((State.memoryOk_iff s).1 h).1

theorem State.write_dma (s : State) (v : Byte) : s.write 0xFF46 v = s.writeDma v := rfl

theorem State.writeBoot_eq (s : State) (v : Byte) :
    s.writeBoot v = { s with mem := s.mem.write 0xFF50 v, overlay := s.overlay && v != 1 } := by
  unfold State.writeBoot
  by_cases h : v = 0x01
  · simp only [h, if_true, bne_self_eq_false, Bool.and_false]
    rfl
  · have n : (v != 1) = true := bne_iff_ne.2 h
    simp only [if_neg h, n, Bool.and_true]
    rfl

/-- Settles O23: one lemma per region, and the write effect of each special register. -/
theorem busWritesFollowTheAddressMap : Obligations.BusWritesFollowTheAddressMap := by
  intro s a v
  have readBack {k : Nat} {w : Byte} (h : s.memoryOk = true) : (s.mem.write k w).read k = w :=
    Memory.read_write_same (State.memoryOk_wf h)
  refine ⟨State.write_rom, State.write_unusable, fun h => ⟨_, State.write_plain h⟩, ?div, rfl, ?stat, ?boot,
    fun h => ?dmaFault, fun h => ?dmaStorage⟩
  case div => exact ⟨_, rfl, readBack⟩
  case stat => exact ⟨_, rfl, readBack⟩
  case boot => exact ⟨_, congrArg Effect.done (s.writeBoot_eq v), readBack⟩
  case dmaFault => rw [State.write_dma, State.writeDma, h]
  case dmaStorage => exact ⟨_, by rw [State.write_dma, State.writeDma, h]; rfl, readBack⟩

/-! ## What a write leaves unread -/

/-- Above the boot image, a read does not depend on the overlay. -/
theorem State.read_overlay (s : State) (o : Bool) {b : Word} (h : 0x100 ≤ b.toNat) :
    { s with overlay := o }.read b = s.read b := by
  have e : region o b = region s.overlay b := by
    simp only [region, if_neg (Nat.not_lt.2 h)]
  unfold State.read
  rw [e]
  rfl

/-- The address of byte `i` of OAM. -/
theorem oamAddress_toNat {i : Nat} (h : i < 160) : (0xFE00 + BitVec.ofNat 16 i : Word).toNat = 0xFE00 + i := by
  bv_omega

/-- A copy of `n` bytes into OAM changes the reads of those bytes only. -/
theorem State.copyOam_read_other {s : State} {p : Byte} {b : Word} {n : Nat} (hn : n ≤ 160)
    (h : b.toNat < 0xFE00 ∨ 0xFE00 + n ≤ b.toNat) : (s.copyOam p n).read b = s.read b := by
  induction n with
  | zero => rfl
  | succ n ih =>
    have ha := oamAddress_toNat (i := n) (by omega)
    have other : home b ≠ home (0xFE00 + BitVec.ofNat 16 n) := fun e => by
      rw [eq_of_home e (by omega), ha] at h
      omega
    have lyc : (0xFE00 + BitVec.ofNat 16 n : Word) ≠ 0xFF45 := fun e => by
      rw [e, show (0xFF45 : Word).toNat = 0xFF45 from rfl] at ha
      omega
    rw [State.copyOam, State.setByte_read_other other fun e => lyc e.1, ih (by omega) (by omega)]

theorem State.reaches_eq_false {s : State} {a b : Word} : s.reaches a b = false ↔
    home b ≠ home a ∧ ¬(a = 0xFF45 ∧ b = 0xFF41) ∧ (a = 0xFF50 → 0x100 ≤ b.toNat) ∧
      (a = 0xFF46 → s.launch.params.dmaMode = .copy → b.toNat < 0xFE00 ∨ 0xFEA0 ≤ b.toNat) := by
  rw [← Bool.not_eq_true]
  simp only [State.reaches, Bool.or_eq_true, Bool.and_eq_true, beq_iff_eq, decide_eq_true_eq, not_or, not_and, not_lt,
    and_assoc, ne_eq, eq_comm (a := home b), imp_iff_not_or, not_le]

/-- What `reaches` denies, a bus write leaves as it was read (20_memory.md R103, R122). -/
theorem State.write_read_other {s t : State} {a b : Word} {v : Byte} (h : s.write a v = .done t)
    (hr : s.reaches a b = false) : t.read b = s.read b := by
  obtain ⟨other, lyc, boot, dma⟩ := State.reaches_eq_false.1 hr
  rcases State.write_done h with ⟨rfl, -⟩ | ⟨rfl, -⟩ | ⟨rfl, rfl⟩ | ⟨rfl, rfl, copy⟩
  · rfl
  · exact State.setByte_read_other other lyc
  · rw [State.writeBoot_eq]
    exact (State.read_overlay (s.setByte 0xFF50 v) _ (boot rfl)).trans (State.setByte_read_other other lyc)
  · rw [State.copyOam_read_other (Nat.le_refl _) (dma rfl copy)]
    exact State.setByte_read_other other lyc

/-! ## Reading back (20_memory.md R107, R122) -/

theorem State.read_write_plain {s t : State} {a : Word} {v : Byte} (h : s.write a v = .done t) (ok : s.memoryOk = true)
    (plain : isPlain a = true) : t.read a = v := by
  obtain ⟨lo, gap, -, stat, ly, -⟩ := (isPlain_iff a).1 plain
  rw [State.write_plain plain] at h
  cases h
  rw [State.read_storage lo gap stat ly, State.setByte_byte ok, if_pos rfl]

/-- A byte of RAM or the echo reads back at every such address that names its storage. -/
theorem State.read_write_home {s t : State} {a b : Word} {v : Byte} (h : s.write a v = .done t)
    (ok : s.memoryOk = true) (same : home b = home a) (loA : 0x8000 ≤ a.toNat) (hiA : a.toNat < 0xFEA0)
    (loB : 0x8000 ≤ b.toNat) (hiB : b.toNat < 0xFEA0) : t.read b = v := by
  rw [State.write_ram loA (.inl hiA)] at h
  cases h
  rw [State.read_ram loB hiB, State.setByte_byte ok, if_pos same]

/-- Settles O24: a stored byte reads back wherever its storage is named, and `State.write_read_other` is the frame. -/
theorem writesReadBackAndReachNothingElse : Obligations.WritesReadBackAndReachNothingElse := by
  intro s t a v h
  refine ⟨State.read_write_plain h, fun ok lo hi => ?toEcho, fun ok lo hi => ?fromEcho,
    fun b => State.write_read_other h⟩
  case toEcho =>
    have e : (a + 0x2000).toNat = a.toNat + 0x2000 := by bv_omega
    have same : home (a + 0x2000) = home a := by
      rw [home_echo (by omega) (by omega), home_of_not_echo (by omega), e, Nat.add_sub_cancel]
    exact State.read_write_home h ok same (by omega) (by omega) (by omega) (by omega)
  case fromEcho =>
    have e : (a - 0x2000).toNat = a.toNat - 0x2000 := by bv_omega
    have same : home (a - 0x2000) = home a := by
      rw [home_echo lo hi, home_of_not_echo (by omega), e]
    exact State.read_write_home h ok same (by omega) (by omega) (by omega) (by omega)

/-! ## OAM DMA (20_memory.md R116) -/

theorem cat_toNat (hi lo : Byte) : (cat hi lo).toNat = hi.toNat * 256 + lo.toNat := by
  rw [cat, BitVec.toNat_append, ← Nat.shiftLeft_add_eq_or_of_lt lo.isLt, Nat.shiftLeft_eq]

/-- The address of byte `i` of the page, as the copy and as the statement write it. -/
theorem pageAddress (p : Byte) (i : Nat) : cat p 0 + BitVec.ofNat 16 i = BitVec.ofNat 16 (p.toNat * 256 + i) := by
  have page : (cat p 0).toNat = p.toNat * 256 := (cat_toNat p 0).trans (Nat.add_zero _)
  rw [BitVec.ofNat_add, ← page, BitVec.ofNat_toNat, BitVec.setWidth_eq]

/-- What the copy has stored after `n` bytes: those of the page as they read before it, for no byte of the page is one
that was copied before it. -/
theorem State.copyOam_mem {s : State} (p : Byte) (ok : s.memoryOk = true) {n : Nat} (hn : n ≤ 160) :
    (∀ i < n, (s.copyOam p n).mem.read (0xFE00 + i) = s.read (BitVec.ofNat 16 (p.toNat * 256 + i))) ∧
      ∀ k, k < 0xFE00 ∨ 0xFE00 + n ≤ k → (s.copyOam p n).mem.read k = s.mem.read k := by
  induction n with
  | zero => exact ⟨fun i h => absurd h (Nat.not_lt_zero i), fun _ _ => rfl⟩
  | succ n ih =>
    obtain ⟨copied, others⟩ := ih (by omega)
    have target : home (0xFE00 + BitVec.ofNat 16 n) = 0xFE00 + n := by
      have e := oamAddress_toNat (i := n) (by omega)
      rw [home_of_not_echo (.inr (by omega)), e]
    have source : (s.copyOam p n).read (BitVec.ofNat 16 (p.toNat * 256 + n)) =
        s.read (BitVec.ofNat 16 (p.toNat * 256 + n)) := by
      refine State.copyOam_read_other (by omega) ?_
      rw [BitVec.toNat_ofNat]
      have := p.isLt
      omega
    rw [State.copyOam, State.setByte_mem, pageAddress, source, target]
    refine ⟨fun i hi => ?_, fun k hk => ?_⟩
    · rw [Memory.read_write (State.memoryOk_wf (State.copyOam_memoryOk ok (by omega)))]
      split
      · next e => rw [Nat.add_left_cancel e]
      · exact copied i (by omega)
    · rw [Memory.read_write_other (by omega), others k (by omega)]

/-- Settles O25: `State.copyOam_mem` of the whole page, started where DMA holds `v`. -/
theorem oamDmaCopiesThePage : Obligations.OamDmaCopiesThePage := by
  intro s v copy ok
  have ok' : (s.setByte 0xFF46 v).memoryOk = true := State.memoryOk_write ok rfl
  obtain ⟨m, hm⟩ := State.copyOam_eq (s.setByte 0xFF46 v) v 160
  obtain ⟨copied, others⟩ := State.copyOam_mem v ok' (Nat.le_refl 160)
  rw [hm] at copied others
  refine ⟨m, ?_, ?_, copied, fun k hk hr => ?_⟩
  · rw [State.write_dma, State.writeDma, copy]
    exact congrArg Effect.done hm
  · exact (others 0xFF46 (by omega)).trans (Memory.read_write_same (State.memoryOk_wf ok))
  · exact (others k hr).trans (Memory.read_write_other hk)

/-! ## Every instruction: where it completes (40_load.md, "write faults") -/

theorem State.write_launch {s t : State} {a : Word} {v : Byte} (h : s.write a v = .done t) : t.launch = s.launch := by
  obtain ⟨m, o, rfl, -⟩ := State.write_eq h
  rfl

theorem State.storable_congr {s t : State} (h : t.launch = s.launch) (a : Word) : t.storable a = s.storable a := by
  simp only [State.storable, h]

/-- Two writes in a row both succeed exactly where both addresses can be written; what stands between them keeps the
launch inputs. -/
theorem State.write_write_done_iff (s : State) (a b : Word) (v w : Byte) {g : State → State}
    (hg : ∀ u, (g u).launch = u.launch) :
    (∃ u t, s.write a v = .done u ∧ (g u).write b w = .done t) ↔ s.storable a = true ∧ s.storable b = true := by
  have between {u : State} (hu : s.write a v = .done u) : (g u).storable b = s.storable b :=
    State.storable_congr ((hg u).trans (State.write_launch hu)) b
  constructor
  · rintro ⟨u, t, hu, ht⟩
    exact ⟨(s.write_done_iff a v).1 ⟨u, hu⟩, between hu ▸ ((g u).write_done_iff b w).1 ⟨t, ht⟩⟩
  · rintro ⟨ha, hb⟩
    obtain ⟨u, hu⟩ := (s.write_done_iff a v).2 ha
    obtain ⟨t, ht⟩ := ((g u).write_done_iff b w).2 ((between hu).trans hb)
    exact ⟨u, t, hu, ht⟩

theorem storeOutcome_completes_iff {s : State} {a : Word} {v : Byte} {len : Word} {n : Nat} {r : Regs} :
    (∃ t, storeOutcome s a v len n r = .next t) ↔ s.storable a = true := by
  rw [← s.write_done_iff a v]
  constructor
  · rintro ⟨t, h⟩
    obtain ⟨u, hu, -⟩ := storeOutcome_eq_next h
    exact ⟨u, hu⟩
  · rintro ⟨u, hu⟩
    exact ⟨_, by rw [storeOutcome, hu]⟩

theorem pushOutcome_completes_iff {s : State} {v len q : Word} {n : Nat} :
    (∃ t, pushOutcome s v len q n = .next t) ↔ s.storable (s.sp - 1) = true ∧ s.storable (s.sp - 2) = true := by
  rw [show s.storable = State.storable { s with sp := s.sp - 1 } from rfl, ← State.write_write_done_iff _ _ _ (hiByte v)
    (loByte v) (g := fun u => { u with sp := s.sp - 2 }) fun _ => rfl]
  constructor
  · rintro ⟨t, h⟩
    obtain ⟨u, w, hu, hw, -⟩ := pushOutcome_eq_next h
    exact ⟨u, w, hu, hw⟩
  · rintro ⟨u, w, hu, hw⟩
    exact ⟨{ w with pc := q, cycles := n }, by simp only [pushOutcome, hu, hw]⟩

theorem exec_ldAtA16Sp_eq_next {a : Word} {s t : State} : exec (.ldAtA16Sp a) s = .next t ↔
    ∃ u w, State.write { s with pc := s.pc + 3 } a (loByte s.sp) = .done u ∧ u.write (a + 1) (hiByte s.sp) = .done w ∧
      t = { w with cycles := 20 } := by
  rw [exec_ldAtA16Sp, instr_eq_next]
  simp only [State.write16, Effect.andThen_eq_done, exists_and_left]
  constructor
  · rintro ⟨w, ⟨u, hu, hw⟩, rfl⟩
    exact ⟨u, hu, w, hw, rfl⟩
  · rintro ⟨u, hu, w, hw, rfl⟩
    exact ⟨w, ⟨u, hu, hw⟩, rfl⟩

theorem exec_ldAtA16Sp_completes_iff {a : Word} {s : State} :
    (∃ t, exec (.ldAtA16Sp a) s = .next t) ↔ s.storable a = true ∧ s.storable (a + 1) = true := by
  rw [show s.storable = State.storable { s with pc := s.pc + 3 } from rfl,
    ← State.write_write_done_iff _ _ _ (loByte s.sp) (hiByte s.sp) (g := id) fun _ => rfl]
  simp only [exec_ldAtA16Sp_eq_next]
  constructor
  · rintro ⟨t, u, w, hu, hw, -⟩
    exact ⟨u, w, hu, hw⟩
  · rintro ⟨u, w, hu, hw⟩
    exact ⟨_, u, w, hu, hw, rfl⟩

/-- Settles O55, by the shape of the instruction: registers, one store, a push or two stores. -/
theorem instructionsCompleteExactlyWhereTheirStoresCan : Obligations.InstructionsCompleteExactlyWhereTheirStoresCan := by
  intro i s notHalt notStop
  cases exec_shape i s with
  | registers r p q b d eq stores =>
    rw [eq, stores]
    exact ⟨fun _ => List.forall_mem_nil _, fun _ => ⟨_, rfl⟩⟩
  | store a v r eq stores =>
    rw [eq, stores, List.forall_mem_singleton]
    exact storeOutcome_completes_iff
  | push v q eq stores =>
    rw [eq, stores, State.pushed, List.forall_mem_cons, List.forall_mem_singleton]
    exact pushOutcome_completes_iff
  | store16 a eq stores =>
    rw [stores, List.forall_mem_cons, List.forall_mem_singleton, eq]
    exact exec_ldAtA16Sp_completes_iff
  | halt eq => exact absurd eq notHalt
  | stop n eq => exact absurd eq (notStop n)

/-! ## Every instruction: its memory frame -/

/-- Two writes in a row leave the reads that neither reaches; SP may move between them. -/
theorem State.write_write_read_other {s t u : State} {a a' b q : Word} {v w : Byte} (hu : s.write a v = .done u)
    (ht : State.write { u with sp := q } a' w = .done t) (ha : s.reaches a b = false) (ha' : s.reaches a' b = false) :
    t.read b = s.read b := by
  have second : State.reaches { u with sp := q } a' b = false := by
    rw [← ha']
    simp only [State.reaches, State.write_launch hu]
  rw [State.write_read_other ht second, State.read_sp, State.write_read_other hu ha]

/-- Registers, PC and the count do not show in a read. -/
theorem State.read_finish (s : State) (r : Regs) (q a : Word) (n : Nat) :
    { s with regs := r, pc := q, cycles := n }.read a = s.read a :=
  State.read_congr (s := s) rfl rfl rfl rfl a

/-- Settles O58, by the shape of the instruction: each store leaves the reads that it does not reach. -/
theorem onlyStoredBytesChange : Obligations.OnlyStoredBytesChange := by
  intro i s t h b unreached
  cases exec_shape i s with
  | registers r p q i d eq =>
    rw [eq] at h
    cases h
    exact State.read_congr (s := s) rfl rfl rfl rfl b
  | store a v r eq stores =>
    rw [stores, List.forall_mem_singleton] at unreached
    obtain ⟨u, hu, rfl⟩ := storeOutcome_eq_next (eq.symm.trans h)
    rw [State.read_finish, State.write_read_other hu unreached]
  | push v q eq stores =>
    rw [stores, State.pushed, List.forall_mem_cons, List.forall_mem_singleton] at unreached
    obtain ⟨u, w, hu, hw, rfl⟩ := pushOutcome_eq_next (eq.symm.trans h)
    exact (w.read_finish ..).trans
      ((State.write_write_read_other hu hw unreached.1 unreached.2).trans (s.read_sp ..))
  | store16 a eq stores =>
    rw [stores, List.forall_mem_cons, List.forall_mem_singleton] at unreached
    subst eq
    obtain ⟨u, w, hu, hw, rfl⟩ := exec_ldAtA16Sp_eq_next.1 h
    exact (w.read_finish ..).trans
      ((State.write_write_read_other hu hw unreached.1 unreached.2).trans (s.read_pc ..))
  | halt eq =>
    subst eq
    rw [exec_halt] at h
    obtain ⟨u, hu, rfl⟩ := instr_eq_next.1 h
    obtain ⟨b, rfl⟩ : Effect.Ends (.done u) _ := hu ▸ halt_ends _ _
    exact State.read_congr (s := s) rfl rfl rfl rfl _
  | stop n eq => subst eq; cases h

end Sys2Proof.Machine

/-! # Encoding (30_encoding.md)

The decoder and the encoder are inverse: an encoding is read back whatever follows it, and what was decoded encodes to
the bytes that were read. Then what a step fetches, the loader, and the cycles and the PC of every instruction. -/

namespace Sys2Proof

/-! ## What `decodeBytes` answers (R160) -/

theorem opcodeLength_bounds : ∀ op, 1 ≤ opcodeLength op ∧ opcodeLength op ≤ 3 := by decide

/-- A list decodes exactly where it holds as many bytes as its first one asks for. -/
theorem decodeBytes_eq_ok {bs rest : List Byte} {i : Instr} : decodeBytes bs = .ok (i, rest) ↔
    ∃ op tl, bs = op :: tl ∧ opcodeLength op ≤ tl.length + 1 ∧ decode3 op (tl.getD 0 0) (tl.getD 1 0) = i ∧
      tl.drop (opcodeLength op - 1) = rest := by
  cases bs with
  | nil => exact ⟨nofun, fun ⟨_, _, h, _⟩ => nomatch h⟩
  | cons op tl =>
    simp only [decodeBytes, List.cons.injEq, and_assoc, exists_and_left, exists_eq_left']
    split
    · next short => exact ⟨nofun, fun h => absurd short (Nat.not_lt.2 h.1)⟩
    · next enough => simp [Nat.not_lt.1 enough]

theorem decodeBytes_three (b0 b1 b2 : Byte) :
    decodeBytes [b0, b1, b2] = .ok (decode3 b0 b1 b2, [b1, b2].drop (opcodeLength b0 - 1)) :=
  decodeBytes_eq_ok.2 ⟨b0, [b1, b2], rfl, (opcodeLength_bounds b0).2, rfl, rfl⟩

/-! ## Decoding an encoding (R150 to R154) -/

/-- The first byte of an encoding asks for as many bytes as the encoding has, and they are read as the instruction,
whatever follows them. -/
theorem encode_eq_cons (i : Instr) : ∃ op args, encode i = op :: args ∧ opcodeLength op = args.length + 1 ∧
    ∀ rest, decode3 op ((args ++ rest).getD 0 0) ((args ++ rest).getD 1 0) = i := by
  cases i with
  -- the word of the instruction is composed again from its two bytes
  | ldBcN16 | ldAtA16Sp | ldDeN16 | ldHlN16 | ldSpN16 | jpNzA16 | jpA16 | callNzA16 | jpZA16 | callZA16 | callA16
  | jpNcA16 | callNcA16 | jpCA16 | callCA16 | ldAtA16A | ldAAtA16 =>
    exact ⟨_, _, rfl, rfl, fun _ => congrArg _ (Machine.cat_hiByte_loByte _)⟩
  -- with the argument bytes in place, the decoder computes
  | _ =>
    refine ⟨_, _, rfl, rfl, fun _ => ?_⟩
    simp only [List.cons_append, List.nil_append, List.getD_cons_zero]
    rfl

/-- Settles O1: the bytes that follow neither lengthen the instruction nor change what is read. -/
theorem decodeOfEncodeIsTheInstruction : Obligations.DecodeOfEncodeIsTheInstruction := by
  intro i rest
  obtain ⟨op, args, he, hl, hd⟩ := encode_eq_cons i
  rw [he]
  refine decodeBytes_eq_ok.2 ⟨op, args ++ rest, rfl, ?enough, hd rest, ?rest⟩
  case enough => rw [hl, List.length_append]; omega
  case rest => rw [hl, Nat.add_sub_cancel, List.drop_left]

/-- Three bytes that begin with an encoding are read as its instruction. -/
theorem decode3_of_encode_prefix {i : Instr} {b0 b1 b2 : Byte} (h : encode i <+: [b0, b1, b2]) :
    decode3 b0 b1 b2 = i := by
  obtain ⟨rest, h⟩ := h
  have e := decodeOfEncodeIsTheInstruction i rest
  rw [h, decodeBytes_three] at e
  cases e
  rfl

/-! ## Encoding what was decoded, along the opcode map (R151, R155 to R157) -/

theorem forall_bitVec2 {P : BitVec 2 → Prop} (h0 : P 0) (h1 : P 1) (h2 : P 2) (h3 : P 3) : ∀ k, P k := by
  rintro ⟨k, hk⟩
  interval_cases k <;> assumption

theorem forall_bitVec4 {P : BitVec 4 → Prop} (h0 : P 0x0) (h1 : P 0x1) (h2 : P 0x2) (h3 : P 0x3) (h4 : P 0x4)
    (h5 : P 0x5) (h6 : P 0x6) (h7 : P 0x7) (h8 : P 0x8) (h9 : P 0x9) (hA : P 0xA) (hB : P 0xB) (hC : P 0xC)
    (hD : P 0xD) (hE : P 0xE) (hF : P 0xF) : ∀ k, P k := by
  rintro ⟨k, hk⟩
  interval_cases k <;> assumption

/-- The encoding of `i` is `op` and, as far as the length that `op` asks for goes, the bytes of `nn`. -/
def EncodesAs (op : Byte) (nn : Word) (i : Instr) : Prop :=
  encode i = [op, loByte nn, hiByte nn].take (opcodeLength op)

/-- A row of the opcode map, decoded by `row`: its sixteen opcodes have the high nibble `hi`. -/
def EncodesRow (hi : BitVec 4) (row : BitVec 4 → Byte → Word → Instr) : Prop :=
  ∀ nn col, EncodesAs (hi ++ col) nn (row col (loByte nn) nn)

theorem encode_decodeCb : ∀ v : Byte, encode (decodeCb v) = [0xCB, v] := by decide

theorem encodesRow_decodeRow0 : EncodesRow 0x0 decodeRow0 := fun _ =>
  forall_bitVec4 rfl rfl rfl rfl rfl rfl rfl rfl rfl rfl rfl rfl rfl rfl rfl rfl

theorem encodesRow_decodeRow1 : EncodesRow 0x1 decodeRow1 := fun _ =>
  forall_bitVec4 rfl rfl rfl rfl rfl rfl rfl rfl rfl rfl rfl rfl rfl rfl rfl rfl

theorem encodesRow_decodeRow2 : EncodesRow 0x2 decodeRow2 := fun _ =>
  forall_bitVec4 rfl rfl rfl rfl rfl rfl rfl rfl rfl rfl rfl rfl rfl rfl rfl rfl

theorem encodesRow_decodeRow3 : EncodesRow 0x3 decodeRow3 := fun _ =>
  forall_bitVec4 rfl rfl rfl rfl rfl rfl rfl rfl rfl rfl rfl rfl rfl rfl rfl rfl

/-- Column B holds 0xCB, after which the CB table is read (R156). -/
theorem encodesRow_decodeRowC : EncodesRow 0xC decodeRowC := fun _ =>
  forall_bitVec4 rfl rfl rfl rfl rfl rfl rfl rfl rfl rfl rfl (encode_decodeCb _) rfl rfl rfl rfl

theorem encodesRow_decodeRowD : EncodesRow 0xD decodeRowD := fun _ =>
  forall_bitVec4 rfl rfl rfl rfl rfl rfl rfl rfl rfl rfl rfl rfl rfl rfl rfl rfl

theorem encodesRow_decodeRowE : EncodesRow 0xE decodeRowE := fun _ =>
  forall_bitVec4 rfl rfl rfl rfl rfl rfl rfl rfl rfl rfl rfl rfl rfl rfl rfl rfl

theorem encodesRow_decodeRowF : EncodesRow 0xF decodeRowF := fun _ =>
  forall_bitVec4 rfl rfl rfl rfl rfl rfl rfl rfl rfl rfl rfl rfl rfl rfl rfl rfl

theorem append_fields : ∀ op : Byte, fieldX op ++ fieldP op ++ loNibble op = op := by decide

/-- A quarter of the opcode map: four rows, chosen by the field `p`. -/
theorem encodesAs_rows {op : Byte} {x : BitVec 2} {r0 r1 r2 r3 : BitVec 4 → Byte → Word → Instr}
    (hx : fieldX op = x) (h0 : EncodesRow (x ++ 0#2) r0) (h1 : EncodesRow (x ++ 1#2) r1) (h2 : EncodesRow (x ++ 2#2) r2)
    (h3 : EncodesRow (x ++ 3#2) r3) (nn : Word) :
    EncodesAs op nn (sel4 (fieldP op) (r0 (loNibble op) (loByte nn) nn) (r1 (loNibble op) (loByte nn) nn)
      (r2 (loNibble op) (loByte nn) nn) (r3 (loNibble op) (loByte nn) nn)) := by
  have quarter : ∀ p, EncodesAs (x ++ p ++ loNibble op) nn (sel4 p (r0 (loNibble op) (loByte nn) nn)
      (r1 (loNibble op) (loByte nn) nn) (r2 (loNibble op) (loByte nn) nn) (r3 (loNibble op) (loByte nn) nn)) :=
    forall_bitVec2 (h0 nn _) (h1 nn _) (h2 nn _) (h3 nn _)
  have h := quarter (fieldP op)
  rwa [← hx, append_fields] at h

theorem EncodesAs.of_one_byte {op : Byte} {nn : Word} {i : Instr} (h : encode i = [op] ∧ opcodeLength op = 1) :
    EncodesAs op nn i := by
  rw [EncodesAs, h.1, h.2]
  rfl

/-- The opcodes of the blocks 0x40-0xBF have no immediate, and are put together again from their fields. -/
theorem encode_ofLd : ∀ op : Byte, fieldX op = 1 →
    encode (.ofLd (R8.ofCode (fieldY op)) (R8.ofCode (fieldZ op))) = [op] ∧ opcodeLength op = 1 := by decide

theorem encode_ofAlu : ∀ op : Byte, fieldX op = 2 →
    encode (.ofAlu (AluOp.ofCode (fieldY op)) (R8.ofCode (fieldZ op))) = [op] ∧ opcodeLength op = 1 := by decide

theorem encodesAs_decodeBase (op : Byte) (nn : Word) : EncodesAs op nn (decodeBase op (loByte nn) nn) :=
  forall_bitVec2 (P := fun x => fieldX op = x → EncodesAs op nn (sel4 x _ _ _ _))
    (fun hx => encodesAs_rows hx encodesRow_decodeRow0 encodesRow_decodeRow1 encodesRow_decodeRow2
      encodesRow_decodeRow3 nn)
    (fun hx => .of_one_byte (encode_ofLd op hx))
    (fun hx => .of_one_byte (encode_ofAlu op hx))
    (fun hx => encodesAs_rows hx encodesRow_decodeRowC encodesRow_decodeRowD encodesRow_decodeRowE
      encodesRow_decodeRowF nn)
    (fieldX op) rfl

/-- What was decoded encodes to the bytes that were read. -/
theorem encode_decode3 (b0 b1 b2 : Byte) : encode (decode3 b0 b1 b2) = [b0, b1, b2].take (opcodeLength b0) := by
  have h := encodesAs_decodeBase b0 (cat b2 b1)
  rwa [EncodesAs, Machine.loByte_cat, Machine.hiByte_cat] at h

/-- The bytes read from a list, missing ones filled up, and the bytes left are the list. -/
theorem take_getD_append_drop {op : Byte} {tl : List Byte} {n : Nat} (h1 : 1 ≤ n) (h3 : n ≤ 3)
    (hn : n ≤ tl.length + 1) : [op, tl.getD 0 0, tl.getD 1 0].take n ++ tl.drop (n - 1) = op :: tl := by
  obtain rfl | rfl | rfl : n = 1 ∨ n = 2 ∨ n = 3 := by omega
  · rfl
  · match tl, hn with
    | _ :: _, _ => rfl
  · match tl, hn with
    | _ :: _ :: _, _ => rfl

theorem eq_encode_append_of_decodeBytes {bs rest : List Byte} {i : Instr} (h : decodeBytes bs = .ok (i, rest)) :
    bs = encode i ++ rest := by
  obtain ⟨op, tl, rfl, enough, rfl, rfl⟩ := decodeBytes_eq_ok.1 h
  obtain ⟨one, three⟩ := opcodeLength_bounds op
  rw [encode_decode3, take_getD_append_drop one three enough]

theorem exists_decodeBytes_of_three_le {bs : List Byte} (h : 3 ≤ bs.length) : ∃ r, decodeBytes bs = .ok r := by
  match bs, h with
  | op :: tl, h =>
    have enough : opcodeLength op ≤ tl.length + 1 := (opcodeLength_bounds op).2.trans h
    exact ⟨(_, _), decodeBytes_eq_ok.2 ⟨op, tl, rfl, enough, rfl, rfl⟩⟩

theorem wellFormedBytes_iff (bs : List Byte) : wellFormedBytes bs = true ↔ ∃ i, decodeBytes bs = .ok (i, []) := by
  cases bs with
  | nil => exact ⟨nofun, nofun⟩
  | cons op tl =>
    have := opcodeLength_bounds op
    simp only [decodeBytes_eq_ok, wellFormedBytes, beq_iff_eq, List.cons.injEq, and_assoc, exists_and_left,
      exists_eq_left', List.drop_eq_nil_iff]
    omega

/-- Settles O2: `encode_decode3` for the first part, the lengths of the opcodes for the others. -/
theorem everyByteSequenceDecodesToOneInstruction : Obligations.EveryByteSequenceDecodesToOneInstruction :=
  ⟨fun _ _ _ => eq_encode_append_of_decodeBytes, fun _ => exists_decodeBytes_of_three_le, wellFormedBytes_iff⟩

/-- Settles O3: the decoder computes each word. -/
theorem specWordsDecodeToTheirInstructions : Obligations.SpecWordsDecodeToTheirInstructions :=
  ⟨rfl, rfl, rfl, rfl, rfl, rfl, rfl, rfl, rfl, rfl, rfl, rfl, rfl⟩

end Sys2Proof

namespace Sys2Proof.Machine

/-! ## What a step fetches (R158) -/

/-- Where the bytes at PC are those of `i`, `i` is the instruction fetched. -/
theorem State.fetch_eq {i : Instr} {s : State}
    (h : ∀ k (hk : k < (encode i).length), s.read (s.pc + BitVec.ofNat 16 k) = (encode i)[k]) : s.fetch = i := by
  have length : (encode i).length ≤ 3 := by
    obtain ⟨op, args, he, hl, -⟩ := encode_eq_cons i
    rw [he, List.length_cons, ← hl]
    exact (opcodeLength_bounds op).2
  refine decode3_of_encode_prefix (List.prefix_iff_getElem.2 ⟨length, fun k hk => ?_⟩)
  rw [← h k hk]
  obtain rfl | rfl | rfl : k = 0 ∨ k = 1 ∨ k = 2 := by omega
  · exact congrArg s.read (BitVec.add_zero _)
  · rfl
  · rfl

/-- Settles O4: `step_executes` of the instruction fetched. -/
theorem stepRunsTheDecodedInstruction : Obligations.StepRunsTheDecodedInstruction := by
  intro i s running awake undisturbed bytes
  rw [step_executes running awake undisturbed, State.fetch_eq bytes]
  cases exec i { s with halted := false } <;> rfl

/-! ## Placing an instruction (70_reset_and_hazards.md R520) -/

@[simp] theorem State.place_pc (s : State) (a : Word) (v : Byte) : (s.place a v).pc = s.pc := by
  unfold State.place; split <;> rfl

@[simp] theorem State.place_overlay (s : State) (a : Word) (v : Byte) : (s.place a v).overlay = s.overlay := by
  unfold State.place; split <;> rfl

@[simp] theorem State.placeAtPc_pc (s : State) (b : Byte × Byte × Byte) : (s.placeAtPc b).pc = s.pc := by
  simp only [State.placeAtPc, State.place_pc]

theorem State.place_memoryOk {s : State} (ok : s.memoryOk = true) (a : Word) (v : Byte) :
    (s.place a v).memoryOk = true := by
  obtain ⟨mem, storage, cart, boot⟩ := (State.memoryOk_iff s).1 ok
  have covers := region_covers s.overlay a
  cases hr : region s.overlay a <;> rw [hr] at covers <;> simp only [Region.covers] at covers <;>
    simp only [State.place, hr]
  case boot => exact (State.memoryOk_iff _).2 ⟨mem, storage, cart, Memory.write_wf boot⟩
  case rom => exact (State.memoryOk_iff _).2 ⟨mem, storage, Memory.write_wf cart, boot⟩
  case unusable => exact ok
  all_goals exact State.memoryOk_write ok (isStorage_home (by omega) (by omega))

/-- A placed byte reads back, where it has storage. -/
theorem State.place_read_same {s : State} {a : Word} {v : Byte} (ok : s.memoryOk = true)
    (placeable : region s.overlay a ≠ .unusable ∧ a ≠ 0xFF41 ∧ a ≠ 0xFF44) : (s.place a v).read a = v := by
  obtain ⟨gap, stat, ly⟩ := placeable
  obtain ⟨mem, -, cart, boot⟩ := (State.memoryOk_iff s).1 ok
  cases hr : region s.overlay a <;>
    simp only [State.place, State.read, State.ioRead, State.setByte_overlay, hr, if_neg stat, if_neg ly]
  case boot => exact Memory.read_write_same boot
  case rom => exact Memory.read_write_same cart
  case unusable => exact absurd hr gap
  all_goals exact Memory.read_write_same mem

/-- Placing a byte changes no read of another storage, STAT apart. -/
theorem State.place_read_other {s : State} {a b : Word} {v : Byte} (h : home b ≠ home a) (stat : b ≠ 0xFF41) :
    (s.place a v).read b = s.read b := by
  have ne : b.toNat ≠ a.toNat := fun e => h (congrArg home (BitVec.eq_of_toNat_eq e))
  cases hr : region s.overlay a <;> simp only [State.place, hr]
  case boot | rom => simp only [State.read, Memory.read_write_other ne]; rfl
  all_goals exact State.setByte_read_other h fun e => stat e.2

/-- Three addresses in a row name three storages. -/
theorem home_consecutive_ne (a : Word) :
    home a ≠ home (a + 1) ∧ home a ≠ home (a + 2) ∧ home (a + 1) ≠ home (a + 2) := by
  have := a.isLt
  simp only [home, BitVec.toNat_add, BitVec.toNat_ofNat, BitVec.ofNat_eq_ofNat]
  split <;> split <;> split <;> omega

/-- Three bytes placed at PC are the three bytes fetched there. -/
theorem State.placeAtPc_fetch {s : State} (ok : s.memoryOk = true)
    (placeable : ∀ k < 3, region s.overlay (s.pc + BitVec.ofNat 16 k) ≠ .unusable ∧
      s.pc + BitVec.ofNat 16 k ≠ 0xFF41 ∧ s.pc + BitVec.ofNat 16 k ≠ 0xFF44) (b : Byte × Byte × Byte) :
    (s.placeAtPc b).fetch = decode3 b.1 b.2.1 b.2.2 := by
  have p0 := placeable 0 (by decide)
  have p1 := placeable 1 (by decide)
  have p2 := placeable 2 (by decide)
  rw [show s.pc + BitVec.ofNat 16 0 = s.pc from BitVec.add_zero _] at p0
  have stat0 : s.pc ≠ 0xFF41 := p0.2.1
  have stat1 : s.pc + 1 ≠ 0xFF41 := p1.2.1
  obtain ⟨ne01, ne02, ne12⟩ := home_consecutive_ne s.pc
  have ok1 := State.place_memoryOk ok s.pc b.1
  have ok2 := State.place_memoryOk ok1 (s.pc + 1) b.2.1
  have read0 : (s.placeAtPc b).read s.pc = b.1 := by
    rw [State.placeAtPc, State.place_read_other ne02 stat0, State.place_read_other ne01 stat0,
      State.place_read_same ok p0]
  have read1 : (s.placeAtPc b).read (s.pc + 1) = b.2.1 := by
    rw [State.placeAtPc, State.place_read_other ne12 stat1, State.place_read_same ok1 (by rwa [State.place_overlay])]
  have read2 : (s.placeAtPc b).read (s.pc + 2) = b.2.2 :=
    State.place_read_same ok2 (by rwa [State.place_overlay, State.place_overlay])
  rw [State.fetch, State.placeAtPc_pc, read0, read1, read2]

/-- A table word is decoded as its three bytes are. -/
theorem decodeTableWord_eq (nbits w : Nat) : decodeTableWord nbits w =
    some (decode3 (tableBytes nbits w).1 (tableBytes nbits w).2.1 (tableBytes nbits w).2.2) := by
  simp only [decodeTableWord, decodeBytes_three]

/-- Settles O5: the loader's three bytes are read back at PC, and the table word is decoded from the same three. -/
theorem placedWordIsFetched : Obligations.PlacedWordIsFetched := by
  intro s nbits w i decoded ok placeable
  rw [decodeTableWord_eq, Option.some_inj] at decoded
  exact ⟨(State.placeAtPc_fetch ok placeable _).trans decoded, s.placeAtPc_pc _⟩

/-! ## Cycles and PC (R158, R159) -/

/-- Settles O57, by the shape of the instruction: registers, one store, a push, two stores, HALT or STOP. -/
theorem cyclesAndPcFollowTheTable : Obligations.CyclesAndPcFollowTheTable := by
  intro i s t h
  change t.cycles = rowCycles i s ∧ _
  cases exec_shape i s with
  | registers r p q b d eq _ _ pc =>
    rw [eq] at h
    cases h
    exact ⟨rfl, pc⟩
  | store a v r eq =>
    obtain ⟨u, -, rfl⟩ := storeOutcome_eq_next (eq.symm.trans h)
    exact ⟨rfl, fun _ => rfl⟩
  | push v q eq _ pc =>
    obtain ⟨u, w, -, -, rfl⟩ := pushOutcome_eq_next (eq.symm.trans h)
    exact ⟨rfl, pc⟩
  | store16 a eq =>
    subst eq
    obtain ⟨u, w, hu, hw, rfl⟩ := exec_ldAtA16Sp_eq_next.1 h
    obtain ⟨-, -, pcU, -⟩ := State.write_keeps hu
    obtain ⟨-, -, pcW, -⟩ := State.write_keeps hw
    exact ⟨rfl, fun _ => pcW.trans pcU⟩
  | halt eq =>
    subst eq
    rw [exec_halt] at h
    obtain ⟨u, hu, rfl⟩ := instr_eq_next.1 h
    obtain ⟨b, rfl⟩ : Effect.Ends (.done u) _ := hu ▸ halt_ends _ _
    exact ⟨rfl, fun _ => rfl⟩
  | stop n eq => subst eq; cases h

end Sys2Proof.Machine

/-! # Loads, stores and the stack (40_load.md)

The instructions of a family are the bodies that it shares; a body that writes registers completes in the state it
computes, one that stores has the outcome of its writes. -/

namespace Sys2Proof.Machine

/-! ## Operand values, as the statements write them -/

theorem ioPage_eq (v : Byte) : ioPage v = 0xFF#8 ++ v := by
  apply BitVec.eq_of_toNat_eq
  rw [ioPage, zext16, show (0xFF#8 ++ v : Word) = cat 0xFF v from rfl, cat_toNat]
  bv_omega

theorem storedF_eq (v : Byte) : storedF v = v.extractLsb' 4 4 ++ 0#4 := by
  revert v; unfold storedF; decide

/-- F is stored whole where its low nibble is 0 (10_state.md R33). -/
theorem storedF_of_low {v : Byte} (low : v &&& 0x0F = 0) : storedF v = v := by
  revert v; unfold storedF; decide

/-! ## Encodings (R202 to R205, R221, R224, R225) -/

theorem encode_ofLd_codes (y z : R8) : encode (.ofLd y z) = [(1#2 ++ y.code ++ z.code : BitVec 8)] := by
  cases y <;> cases z <;> rfl

theorem encode_ofLdImm (y : R8) (n : Byte) : encode (.ofLdImm y n) = [(0#2 ++ y.code ++ 6#3 : BitVec 8), n] := by
  cases y <;> rfl

theorem encode_ofLdPair (p : R16) (v : Word) :
    encode (.ofLdPair p v) = [(0#2 ++ p.code ++ 1#4 : BitVec 8), loByte v, hiByte v] := by
  cases p <;> rfl

theorem encode_ofPush (p : RStk) : encode (.ofPush p) = [(3#2 ++ p.code ++ 5#4 : BitVec 8)] := by
  cases p <;> rfl

theorem encode_ofPop (p : RStk) : encode (.ofPop p) = [(3#2 ++ p.code ++ 1#4 : BitVec 8)] := by
  cases p <;> rfl

/-! ## Loads of a register -/

/-- A write of a register operand completes, whatever the register. -/
theorem instr_put8_register (s : State) {y : R8} (hy : y ≠ .mem) (v : State → Byte) (len n : Nat) :
    instr len n (fun t => t.put8 y (v t)) s = .next { s with
      regs := s.regs.put y (v { s with pc := s.pc + BitVec.ofNat 16 len })
      pc := s.pc + BitVec.ofNat 16 len
      cycles := n } := by
  rw [instr, State.put8_register hy, conclude_done]

/-- The meanings of LD into a register are one body. -/
theorem exec_ofLd {y : R8} (hy : y ≠ .mem) (z : R8) (s : State) :
    exec (.ofLd y z) s = instr 1 (regOrMem z 4 8) (ld y z) s := by
  cases y with
  | mem => exact absurd rfl hy
  | _ => cases z <;> rfl

theorem exec_ofLdImm {y : R8} (hy : y ≠ .mem) (n : Byte) (s : State) :
    exec (.ofLdImm y n) s = instr 2 8 (ldImm y n) s := by
  cases y with
  | mem => exact absurd rfl hy
  | _ => rfl

/-- Settles O31: both are writes of a register operand, the value being read before the write. -/
theorem loadsOfARegister : Obligations.LoadsOfARegister := by
  intro s y z n hy
  refine ⟨encode_ofLd_codes y z, ?ld, encode_ofLdImm y n, ?imm⟩
  case ld =>
    rw [exec_ofLd hy, ← State.operand_pc s z (s.pc + 1), ← State.get8_operand]
    exact instr_put8_register s hy (·.get8 z) 1 _
  case imm =>
    rw [exec_ofLdImm hy]
    exact instr_put8_register s hy (fun _ => n) 2 8

/-! ## One-byte stores -/

theorem instr_storeA (s : State) (addr : State → Word) (len n : Nat) : instr len n (storeA addr) s =
    storeOutcome s (addr { s with pc := s.pc + BitVec.ofNat 16 len }) s.regs.a (BitVec.ofNat 16 len) n s.regs :=
  store_outcome' s _ _ len n

/-- HL is stepped from its value before the write, and only where the write succeeds (R211, R212). -/
theorem instr_storeAStep (s : State) (delta : Word) (len n : Nat) : instr len n (storeAStep delta) s =
    storeOutcome s s.regs.hl s.regs.a (BitVec.ofNat 16 len) n (s.regs.setHl (s.regs.hl + delta)) :=
  store_outcome s _ _ len n (fun t => t.regs.setHl (s.regs.hl + delta)) fun _ _ => rfl

/-- A store of an `r` operand or an immediate at HL. -/
theorem instr_put8_mem (s : State) (v : State → Byte) (len n : Nat) :
    instr len n (fun t => t.put8 .mem (v t)) s =
      storeOutcome s s.regs.hl (v { s with pc := s.pc + BitVec.ofNat 16 len }) (BitVec.ofNat 16 len) n s.regs :=
  store_outcome' s _ _ len n

/-- The meanings of LD (HL),r are one body; 0x76 is HALT (30_encoding.md R161). -/
theorem exec_ofLd_mem {z : R8} (hz : z ≠ .mem) (s : State) : exec (.ofLd .mem z) s = instr 1 8 (ld .mem z) s := by
  cases z with
  | mem => exact absurd rfl hz
  | _ => rfl

theorem exec_ldAtHlR {z : R8} (hz : z ≠ .mem) (s : State) :
    exec (.ofLd .mem z) s = storeOutcome s s.regs.hl (s.operand z) 1 8 s.regs := by
  rw [exec_ofLd_mem hz, ← State.operand_pc s z (s.pc + 1), ← State.get8_operand]
  exact instr_put8_mem s (·.get8 z) 1 8

/-- Settles O32: each is one store, at the address its operand names. -/
theorem oneByteStores : Obligations.OneByteStores := by
  intro s z n a
  refine ⟨fun hz => ⟨encode_ofLd_codes .mem z, exec_ldAtHlR hz s⟩, ⟨rfl, instr_put8_mem s (fun _ => n) 2 12⟩,
    ⟨rfl, instr_storeA s _ 1 8⟩, ⟨rfl, instr_storeA s _ 1 8⟩, ⟨rfl, instr_storeAStep s 1 1 8⟩, ⟨rfl, ?hld⟩,
    ⟨rfl, instr_storeA s _ 3 16⟩, ⟨rfl, ?a8⟩, ⟨rfl, ?c⟩⟩
  case hld =>
    rw [BitVec.sub_eq_add_neg]
    exact instr_storeAStep s (-1) 1 8
  case a8 =>
    rw [← ioPage_eq]
    exact instr_storeA s _ 2 12
  case c =>
    rw [← ioPage_eq]
    exact instr_storeA s _ 1 8

/-! ## Loads of A -/

theorem instr_loadA (s : State) (addr : State → Word) (len n : Nat) : instr len n (loadA addr) s = .next { s with
    regs := { s.regs with a := s.read (addr { s with pc := s.pc + BitVec.ofNat 16 len }) }
    pc := s.pc + BitVec.ofNat 16 len
    cycles := n } := by
  rw [instr, loadA, State.read_pc, conclude_done]
  rfl

theorem instr_loadAStep (s : State) (delta : Word) (len n : Nat) : instr len n (loadAStep delta) s = .next { s with
    regs := { s.regs with a := s.read s.regs.hl }.setHl (s.regs.hl + delta)
    pc := s.pc + BitVec.ofNat 16 len
    cycles := n } := by
  rw [instr, loadAStep, State.read_pc, conclude_done]
  rfl

/-- Settles O33: each is one read, at the address its operand names. -/
theorem loadsOfAFromMemory : Obligations.LoadsOfAFromMemory := by
  intro s n a
  refine ⟨⟨rfl, instr_loadA s (·.regs.bc) 1 8⟩, ⟨rfl, instr_loadA s (·.regs.de) 1 8⟩, ⟨rfl, instr_loadAStep s 1 1 8⟩,
    ⟨rfl, ?hld⟩, ⟨rfl, instr_loadA s (fun _ => a) 3 16⟩, ⟨rfl, ?a8⟩, ⟨rfl, ?c⟩⟩
  case hld =>
    rw [BitVec.sub_eq_add_neg]
    exact instr_loadAStep s (-1) 1 8
  case a8 =>
    rw [← ioPage_eq]
    exact instr_loadA s (fun _ => ioPage n) 2 12
  case c =>
    rw [← ioPage_eq]
    exact instr_loadA s (fun t => ioPage t.regs.c) 1 8

/-! ## 16-bit loads -/

/-- A write of a pair changes that pair alone. -/
theorem State.pairValue_put16 (s : State) (p q : R16) (v : Word) :
    (s.put16 p v).pairValue q = if q = p then v else s.pairValue q := by
  have joined : hiByte v ++ loByte v = v := cat_hiByte_loByte v
  cases p with
  | bc => cases q with
    | bc => exact joined
    | _ => rfl
  | de => cases q with
    | de => exact joined
    | _ => rfl
  | hl => cases q with
    | hl => exact joined
    | _ => rfl
  | sp => cases q <;> rfl

theorem State.put16_eq (s : State) (p : R16) (v : Word) :
    s.put16 p v = { s with regs := (s.put16 p v).regs, sp := (s.put16 p v).sp } := by
  cases p <;> rfl

/-- A write of a pair, as the statements write it. -/
theorem instr_put16_setsPair (s : State) (p : R16) (v : State → Word) (len n : Nat) :
    SetsPair (instr len n (fun t => .done (t.put16 p (v t))) s) s p (v { s with pc := s.pc + BitVec.ofNat 16 len })
      (BitVec.ofNat 16 len) n := by
  generalize hw : v { s with pc := s.pc + BitVec.ofNat 16 len } = w
  have value := s.pairValue_put16 p (v := w)
  rw [State.put16_eq] at value
  refine ⟨(s.put16 p w).regs, (s.put16 p w).sp, ?_, (value p).trans (if_pos rfl),
    fun q hq => (value q).trans (if_neg hq), ?_, ?_⟩
  · rw [instr, hw, conclude_done]
    cases p <;> rfl
  all_goals cases p <;> rfl

theorem exec_ofLdPair (p : R16) (v : Word) (s : State) : exec (.ofLdPair p v) s = instr 3 12 (ldPair p v) s := by
  cases p <;> rfl

/-- Settles O34: LD rr,n16 writes a pair, LD SP,HL writes SP, and LD (a16),SP makes two writes that do not depend on
PC. -/
theorem sixteenBitLoads : Obligations.SixteenBitLoads := by
  intro s p v
  refine ⟨encode_ofLdPair p v, ?pair, rfl, rfl, rfl, ?store⟩
  case pair =>
    rw [exec_ofLdPair]
    exact instr_put16_setsPair s p (fun _ => v) 3 12
  case store =>
    simp only [exec_ldAtA16Sp, instr, State.write16, loByte, hiByte, State.write_pc]
    cases s.write v (s.sp.extractLsb' 0 8) with
    | raise k t => rfl
    | done t =>
      simp only [Effect.done_andThen, State.write_pc]
      cases t.write (v + 1) (s.sp.extractLsb' 8 8) <;> rfl

/-! ## PUSH and POP -/

theorem exec_ofPush (p : RStk) (s : State) :
    exec (.ofPush p) s = pushOutcome s (s.regs.getStk p) 1 (s.pc + 1) 16 := by
  have body : exec (.ofPush p) s = instr 1 16 (push p) s := by cases p <;> rfl
  rw [body]
  exact push_outcome' s _ 1 16

/-- A pop reads the same wherever PC is. -/
theorem State.pop16_pc (s : State) (q : Word) :
    { s with pc := q }.pop16 = (s.pop16.1, { s with pc := q, sp := s.sp + 2 }) := by
  simp only [State.pop16, State.read_pc]

theorem exec_ofPop (p : RStk) (s : State) : exec (.ofPop p) s = .next { s with
    regs := s.regs.putStk p s.pop16.1, sp := s.sp + 2, pc := s.pc + 1, cycles := 12 } := by
  have body : exec (.ofPop p) s = instr 1 12 (pop p) s := by cases p <;> rfl
  rw [body, instr, pop, State.pop16_pc, conclude_done]
  rfl

theorem exec_ret (s : State) : exec .ret s = .next { s with pc := s.pop16.1, sp := s.sp + 2, cycles := 16 } := by
  rw [show exec .ret s = instr 1 16 ret s from rfl, instr, ret, State.pop16_pc, conclude_done]

/-- Settles O35: PUSH is a push of the pair; POP writes it with the word popped, whose bytes are those read. -/
theorem pushAndPop : Obligations.PushAndPop := by
  intro s p
  refine ⟨encode_ofPush p, ?push, encode_ofPop p, ?pop⟩
  case push =>
    rw [exec_ofPush]
    cases p <;> rfl
  case pop =>
    rw [exec_ofPop, State.pop16]
    cases p <;> simp only [Regs.putStk, Regs.setBc, Regs.setDe, Regs.setHl, Regs.setAf, hiByte_cat, loByte_cat,
      storedF_eq]

/-! ## A push on plain storage, and what is popped after it (R200, R201) -/

/-- A push whose two bytes are plain storage completes, having stored them. -/
theorem pushOutcome_plain {s : State} (hi : isPlain (s.sp - 1) = true) (lo : isPlain (s.sp - 2) = true)
    (v len q : Word) (n : Nat) : pushOutcome s v len q n = .next
      { (s.setByte (s.sp - 1) (hiByte v)).setByte (s.sp - 2) (loByte v) with sp := s.sp - 2, pc := q, cycles := n } := by
  simp only [pushOutcome, State.write_plain hi, State.write_plain lo]
  rfl

/-- Two bytes stored in plain storage, at two addresses in a row, the higher first, both read back. -/
theorem State.read_setByte_setByte {s : State} (ok : s.memoryOk = true) {a : Word} (hi : isPlain (a + 1) = true)
    (lo : isPlain a = true) (v w : Byte) :
    ((s.setByte (a + 1) v).setByte a w).read a = w ∧ ((s.setByte (a + 1) v).setByte a w).read (a + 1) = v := by
  have first : s.write (a + 1) v = .done (s.setByte (a + 1) v) := State.write_plain hi
  obtain ⟨-, -, -, stat, -⟩ := (isPlain_iff _).1 hi
  refine ⟨State.read_write_plain (State.write_plain lo) (State.write_memoryOk first ok) lo, ?_⟩
  rw [State.setByte_read_other (home_consecutive_ne a).1.symm fun e => stat e.2]
  exact State.read_write_plain first ok hi

/-- After a push on plain storage the word pushed is the word on top of the stack, low byte first. -/
theorem exists_pushOutcome_plain {s : State} (ok : s.memoryOk = true) (hi : isPlain (s.sp - 1) = true)
    (lo : isPlain (s.sp - 2) = true) (v len q : Word) (n : Nat) : ∃ t, pushOutcome s v len q n = .next t ∧
      t.regs = s.regs ∧ t.sp = s.sp - 2 ∧ t.pc = q ∧ t.read t.sp = loByte v ∧ t.read (t.sp + 1) = hiByte v := by
  refine ⟨_, pushOutcome_plain hi lo v len q n, rfl, rfl, rfl, ?_⟩
  have next : s.sp - 1 = s.sp - 2 + 1 := by bv_omega
  rw [next] at hi ⊢
  exact State.read_setByte_setByte ok hi lo (hiByte v) (loByte v)

/-- A pair read and written back is unchanged, AF because F's low nibble is 0. -/
theorem Regs.putStk_getStk {r : Regs} (low : r.f &&& 0x0F = 0) (p : RStk) : r.putStk p (r.getStk p) = r := by
  cases p <;> simp only [Regs.putStk, Regs.getStk, Regs.setBc, Regs.setDe, Regs.setHl, Regs.setAf, Regs.bc, Regs.de,
    Regs.hl, Regs.af, hiByte_cat, loByte_cat, storedF_of_low low]

/-- Settles O26: what is popped after a push is the word pushed, and SP comes back. -/
theorem stackRoundTrips : Obligations.StackRoundTrips := by
  intro s ok low hi lo
  have back {t : State} (sp : t.sp = s.sp - 2) : t.sp + 2 = s.sp := by rw [sp, BitVec.sub_add_cancel]
  have popped {t : State} {v : Word} (rlo : t.read t.sp = loByte v) (rhi : t.read (t.sp + 1) = hiByte v) :
      t.pop16.1 = v := by
    rw [State.pop16, rlo, rhi, cat_hiByte_loByte]
  refine ⟨fun p => ?push, fun a => ?call⟩
  case push =>
    obtain ⟨t, ht, regs, sp, -, rlo, rhi⟩ := exists_pushOutcome_plain ok hi lo (s.regs.getStk p) 1 (s.pc + 1) 16
    refine ⟨t, _, (exec_ofPush p s).trans ht, exec_ofPop p t, ?_, back sp, sp⟩
    rw [popped rlo rhi, regs]
    exact Regs.putStk_getStk ((State.lowNibbleClear_iff s).1 low) p
  case call =>
    obtain ⟨t, ht, -, sp, pc, rlo, rhi⟩ := exists_pushOutcome_plain ok hi lo (s.pc + 3) 3 a 24
    exact ⟨t, _, (call_outcome s a 3 24).trans ht, exec_ret t, pc, popped rlo rhi, back sp, rlo, rhi⟩

end Sys2Proof.Machine

/-! # 8-bit arithmetic and logic (41_alu8.md)

Each helper of the flags says once what it computes; an instruction that writes A and F completes with them, and one on
a register or on the byte at HL is a read-modify-write. -/

namespace Sys2Proof.Machine

/-! ## What the helpers compute (R250, R251, R264, R276, R278) -/

theorem add8_toNat (a b : Byte) (cin : Bool) :
    (add8 a b cin).1.toNat = (a.toNat + b.toNat + cin.toNat) % 256 :=
  BitVec.toNat_ofNat _ 8

theorem add8_flags (a b : Byte) (cin : Bool) : FlagsAre (add8 a b cin).2.pack ((add8 a b cin).1 = 0) False
    (a.toNat % 16 + b.toNat % 16 + cin.toNat > 0xF) (a.toNat + b.toNat + cin.toNat > 0xFF) :=
  .of_pack beq_iff_eq Bool.false_eq_true.to_iff decide_eq_true_iff decide_eq_true_iff

theorem sub8_flags (a b : Byte) (cin : Bool) : FlagsAre (sub8 a b cin).2.pack ((sub8 a b cin).1 = 0) True
    (a.toNat % 16 < b.toNat % 16 + cin.toNat) (a.toNat < b.toNat + cin.toNat) :=
  .of_pack beq_iff_eq (iff_true_intro rfl) decide_eq_true_iff decide_eq_true_iff

theorem logicFlags_flags (r : Byte) {h : Bool} {p : Prop} (hp : h = true ↔ p) :
    FlagsAre (logicFlags r h).pack (r = 0) False p False :=
  .of_pack beq_iff_eq Bool.false_eq_true.to_iff hp Bool.false_eq_true.to_iff

theorem inc8_flags (v : Byte) (f : Flags) :
    FlagsAre (inc8 v f).2.pack ((inc8 v f).1 = 0) False (v.toNat % 16 = 0xF) (f.c = true) :=
  .of_pack beq_iff_eq Bool.false_eq_true.to_iff beq_iff_eq Iff.rfl

theorem dec8_flags (v : Byte) (f : Flags) :
    FlagsAre (dec8 v f).2.pack ((dec8 v f).1 = 0) True (v.toNat % 16 = 0) (f.c = true) :=
  .of_pack beq_iff_eq (iff_true_intro rfl) beq_iff_eq Iff.rfl

/-! ## Encodings (R252 to R279) -/

theorem encode_ofAlu (op : AluOp) (z : R8) : encode (.ofAlu op z) = [(2#2 ++ op.code ++ z.code : BitVec 8)] := by
  cases op <;> cases z <;> rfl

theorem encode_ofAluImm (op : AluOp) (n : Byte) :
    encode (.ofAluImm op n) = [(3#2 ++ op.code ++ 6#3 : BitVec 8), n] := by
  cases op <;> rfl

theorem encode_ofInc (y : R8) : encode (.ofInc y) = [(0#2 ++ y.code ++ 4#3 : BitVec 8)] := by
  cases y <;> rfl

theorem encode_ofDec (y : R8) : encode (.ofDec y) = [(0#2 ++ y.code ++ 5#3 : BitVec 8)] := by
  cases y <;> rfl

/-! ## Operations on A (R252 to R275) -/

/-- A body that writes A and the flags completes. -/
theorem instr_setA_setFlags (s : State) (g : State → Byte × Flags) (len n : Nat) :
    instr len n (fun t => .done ((t.setA (g t).1).setFlags (g t).2)) s = .next { s with
      regs := { s.regs with
        a := (g { s with pc := s.pc + BitVec.ofNat 16 len }).1
        f := (g { s with pc := s.pc + BitVec.ofNat 16 len }).2.pack }
      pc := s.pc + BitVec.ofNat 16 len
      cycles := n } :=
  rfl

/-- The meanings of an operation on A and an `r` operand are one body. -/
theorem exec_ofAlu (op : AluOp) (z : R8) (s : State) :
    exec (.ofAlu op z) s = instr 1 (regOrMem z 4 8) (aluOperand op z) s := by
  cases op <;> cases z <;> rfl

theorem exec_ofAluImm (op : AluOp) (n : Byte) (s : State) :
    exec (.ofAluImm op n) s = instr 2 8 (aluValue op n) s := by
  cases op <;> rfl

/-- What `alu` computes of every operand an instruction writes to A and F, in its register, (HL) and immediate forms. -/
theorem alu_forms {op : AluOp} {s : State} {P : Byte → Byte → Byte → Prop}
    (computes : ∀ v, P v (alu op s.regs.a v s.cf).1 (alu op s.regs.a v s.cf).2.pack) (z : R8) (n : Byte) :
    encode (.ofAlu op z) = [(2#2 ++ op.code ++ z.code : BitVec 8)] ∧
    SetsAF (exec (.ofAlu op z) s) s 1 (regOrMem z 4 8) (P (s.operand z)) ∧
    encode (.ofAluImm op n) = [(3#2 ++ op.code ++ 6#3 : BitVec 8), n] ∧
    SetsAF (exec (.ofAluImm op n) s) s 2 8 (P n) := by
  refine ⟨encode_ofAlu op z, ?operand, encode_ofAluImm op n, ?immediate⟩
  case operand =>
    rw [exec_ofAlu, ← State.operand_pc s z (s.pc + 1), ← State.get8_operand]
    exact ⟨_, _, instr_setA_setFlags s (fun t => alu op t.regs.a (t.get8 z) t.flags.c) 1 _, computes _⟩
  case immediate =>
    rw [exec_ofAluImm]
    exact ⟨_, _, instr_setA_setFlags s (fun t => alu op t.regs.a n t.flags.c) 2 8, computes n⟩

theorem alu_add_adc (carry : Bool) (a v : Byte) (cin : Bool) :
    alu (if carry then .adc else .add) a v cin = add8 a v (carry && cin) := by
  cases carry <;> rfl

/-- Settles O36: both are `add8`, with the carry flag or with none. -/
theorem addAndAddWithCarry : Obligations.AddAndAddWithCarry := by
  intro s z n carry op cin sum
  have hcin : cin = (carry && s.cf).toNat := (Bool.cond_eq_ite ..).symm
  refine alu_forms (P := sum) (fun v => ?_) z n
  rw [show alu op s.regs.a v s.cf = _ from alu_add_adc carry ..]
  dsimp only [sum]
  rw [hcin]
  exact ⟨add8_toNat .., add8_flags ..⟩

/-- SUB, SBC and CP are `sub8`, with the carry flag as borrow for SBC only; CP keeps A (R258 to R263, R273). -/
theorem alu_sub_sbc_cp {op : AluOp} (hop : op = .sub ∨ op = .sbc ∨ op = .cp) (a v : Byte) (cin : Bool) :
    alu op a v cin = (if op = .cp then a else (sub8 a v (op == .sbc && cin)).1, (sub8 a v (op == .sbc && cin)).2) := by
  rcases hop with rfl | rfl | rfl <;> rfl

/-- Settles O37: all three are `sub8`, whose result CP discards. -/
theorem subtractAndCompare : Obligations.SubtractAndCompare := by
  intro s z n op hop cin difference
  have hcin : cin = (op == .sbc && s.cf).toNat := by simp [cin, Bool.toNat, Bool.cond_eq_ite]
  refine alu_forms (P := difference) (fun v => ?_) z n
  rw [alu_sub_sbc_cp hop]
  dsimp only [difference]
  rw [hcin]
  exact ⟨rfl, sub8_flags ..⟩

/-- Settles O38: the results are the bitwise ones, and the flags differ in H only. -/
theorem logicOperations : Obligations.LogicOperations := by
  intro s z n op hop result
  refine alu_forms (P := result) (fun v => ?_) z n
  rcases hop with rfl | rfl | rfl
  · exact ⟨fun _ _ => BitVec.getLsbD_and, logicFlags_flags _ (by decide)⟩
  · exact ⟨fun _ _ => BitVec.getLsbD_xor, logicFlags_flags _ (by decide)⟩
  · exact ⟨fun _ _ => BitVec.getLsbD_or, logicFlags_flags _ (by decide)⟩

/-! ## INC and DEC (R276 to R279) -/

theorem exec_ofInc {y : R8} (hy : y ≠ .mem) (s : State) : exec (.ofInc y) s = instr 1 4 (modify y inc8) s := by
  cases y with
  | mem => exact absurd rfl hy
  | _ => rfl

theorem exec_ofDec {y : R8} (hy : y ≠ .mem) (s : State) : exec (.ofDec y) s = instr 1 4 (modify y dec8) s := by
  cases y with
  | mem => exact absurd rfl hy
  | _ => rfl

/-- A read-modify-write of a register completes, whatever the register. -/
theorem instr_modify_register (s : State) {y : R8} (hy : y ≠ .mem) (g : Byte → Flags → Byte × Flags) (len n : Nat) :
    instr len n (modify y g) s = .next { s with
      regs := { s.regs.put y (g (s.operand y) s.flags).1 with f := (g (s.operand y) s.flags).2.pack }
      pc := s.pc + BitVec.ofNat 16 len
      cycles := n } := by
  rw [instr, modify, State.put8_register hy, State.get8_operand, State.operand_pc]
  rfl

theorem inc8_toNat (v : Byte) (f : Flags) : (inc8 v f).1.toNat = (v.toNat + 1) % 256 :=
  BitVec.toNat_add v 1

theorem dec8_toNat (v : Byte) (f : Flags) : (dec8 v f).1.toNat = (v.toNat + 255) % 256 := by
  rw [dec8, BitVec.toNat_sub, Nat.add_comm]
  rfl

/-- Settles O39: each is a read-modify-write of the register. -/
theorem incrementAndDecrementOfARegister : Obligations.IncrementAndDecrementOfARegister := by
  intro s y hy
  refine ⟨encode_ofInc y, ?inc, encode_ofDec y, ?dec⟩
  case inc =>
    rw [exec_ofInc hy]
    exact ⟨_, _, instr_modify_register s hy inc8 1 4, inc8_toNat _ _, inc8_flags _ _⟩
  case dec =>
    rw [exec_ofDec hy]
    exact ⟨_, _, instr_modify_register s hy dec8 1 4, dec8_toNat _ _, dec8_flags _ _⟩

theorem inc8_eq_zero (v : Byte) (f : Flags) : (inc8 v f).1 = 0 ↔ v = 0xFF := by
  simp only [inc8]
  bv_omega

theorem dec8_eq_zero (v : Byte) (f : Flags) : (dec8 v f).1 = 0 ↔ v = 1 := by
  simp only [dec8]
  bv_omega

/-- Settles O40: each is a read-modify-write of the byte at HL. -/
theorem incrementAndDecrementOfMemory : Obligations.IncrementAndDecrementOfMemory := by
  intro s hl v
  refine ⟨rfl, rfl, ⟨(inc8 v s.flags).2.pack, ?incFlags, ?inc⟩, ⟨(dec8 v s.flags).2.pack, ?decFlags, ?dec⟩⟩
  case incFlags =>
    rw [← inc8_eq_zero v s.flags]
    exact inc8_flags v s.flags
  case inc =>
    rw [← show (inc8 v s.flags).1 = BitVec.ofNat 8 (v.toNat + 1) from BitVec.eq_of_toNat_eq (inc8_toNat ..)]
    exact modify_outcome s inc8 1 12
  case decFlags =>
    rw [← dec8_eq_zero v s.flags]
    exact dec8_flags v s.flags
  case dec =>
    rw [← show (dec8 v s.flags).1 = BitVec.ofNat 8 (v.toNat + 255) from BitVec.eq_of_toNat_eq (dec8_toNat ..)]
    exact modify_outcome s dec8 1 12

/-! ## DAA, CPL, SCF and CCF (R280 to R283) -/

/-- DAA's low correction, on the original A (92_eei_decisions.md D30). -/
def daaLow (a : Byte) (f : Flags) : Nat := if f.h = true ∨ (f.n = false ∧ a.toNat % 16 > 9) then 0x06 else 0

/-- DAA's high correction, on the original A (92_eei_decisions.md D30). -/
def daaHigh (a : Byte) (f : Flags) : Nat := if f.c = true ∨ (f.n = false ∧ a.toNat > 0x99) then 0x60 else 0

/-- After an addition the high test on the partly corrected value is the one on the original A (90_conflicts.md C3). -/
theorem daaAdjust_add (a : Byte) {f : Flags} (hn : f.n = false) :
    daaAdjust a f = (a.toNat + daaLow a f + daaHigh a f, decide (daaHigh a f ≠ 0)) := by
  have low : (if f.h = true ∨ a.toNat % 16 > 9 then a.toNat + 0x06 else a.toNat) = a.toNat + daaLow a f := by
    simp only [daaLow, hn, true_and]
    split <;> rfl
  have high : a.toNat + daaLow a f > 0x9F ↔ a.toNat > 0x99 := by
    simp only [daaLow, hn, true_and]
    split <;> omega
  simp only [daaAdjust, if_true, low, high, daaHigh, hn, true_and]
  split_ifs <;> rfl

/-- After a subtraction the corrections subtract modulo 256, in either order. -/
theorem daaAdjust_sub (a : Byte) {f : Flags} (hn : f.n = true) :
    daaAdjust a f = ((a.toNat + 512 - daaLow a f - daaHigh a f) % 256, decide (daaHigh a f ≠ 0)) := by
  have lt := a.isLt
  simp only [daaAdjust, daaLow, daaHigh, hn, Bool.true_eq_false, if_false, false_and, or_false]
  split_ifs
  all_goals
    refine Prod.ext ?_ rfl
    dsimp only
    omega

theorem daa_value (a : Byte) (f : Flags) : (daa a f).1 = BitVec.ofInt 8
    (if f.n = true then (a.toNat : Int) - daaLow a f - daaHigh a f else a.toNat + daaLow a f + daaHigh a f) := by
  have lt := a.isLt
  have low : daaLow a f ≤ 0x06 := by unfold daaLow; split <;> omega
  have high : daaHigh a f ≤ 0x60 := by unfold daaHigh; split <;> omega
  apply BitVec.eq_of_toNat_eq
  rw [daa, BitVec.toNat_ofNat, BitVec.toNat_ofInt]
  cases hn : f.n with
  | false =>
    rw [daaAdjust_add a hn, if_neg Bool.false_ne_true]
    omega
  | true =>
    rw [daaAdjust_sub a hn, if_pos rfl]
    omega

theorem daa_carry (a : Byte) (f : Flags) : (daa a f).2.c = true ↔ daaHigh a f ≠ 0 := by
  rw [daa]
  cases hn : f.n with
  | false => rw [daaAdjust_add a hn]; exact decide_eq_true_iff
  | true => rw [daaAdjust_sub a hn]; exact decide_eq_true_iff

theorem daa_flags (a : Byte) (f : Flags) :
    FlagsAre (daa a f).2.pack ((daa a f).1 = 0) (f.n = true) False (daaHigh a f ≠ 0) :=
  .of_pack beq_iff_eq Iff.rfl Bool.false_eq_true.to_iff (daa_carry a f)

/-- Settles O41: each writes A and F, and DAA is `daa`, whose corrections are those of D30. -/
theorem accumulatorAdjustments : Obligations.AccumulatorAdjustments := by
  intro s low high
  refine ⟨rfl, rfl, rfl, rfl, ⟨_, _, instr_setA_setFlags s (fun t => daa t.regs.a t.flags) 1 4, ?daa⟩,
    ⟨_, _, instr_setA_setFlags s (fun t => (t.regs.a ^^^ 0xFF, { t.flags with n := true, h := true })) 1 4, ?cpl⟩,
    ⟨_, _, instr_setA_setFlags s (fun t => (t.regs.a, { t.flags with n := false, h := false, c := true })) 1 4, ?scf⟩,
    ⟨_, _, instr_setA_setFlags s (fun t => (t.regs.a, { t.flags with n := false, h := false, c := !t.flags.c })) 1 4,
      ?ccf⟩⟩
  case daa => exact ⟨daa_value .., daa_flags s.regs.a s.flags⟩
  case cpl =>
    have complement : s.regs.a ^^^ 0xFF = ~~~s.regs.a := BitVec.xor_allOnes ..
    exact ⟨(congrArg BitVec.toNat complement).trans BitVec.toNat_not,
      .of_pack Iff.rfl (iff_true_intro rfl) (iff_true_intro rfl) Iff.rfl⟩
  case scf =>
    exact ⟨rfl, .of_pack Iff.rfl Bool.false_eq_true.to_iff Bool.false_eq_true.to_iff (iff_true_intro rfl)⟩
  case ccf =>
    exact ⟨rfl, .of_pack Iff.rfl Bool.false_eq_true.to_iff Bool.false_eq_true.to_iff (Bool.not_eq_true' _).to_iff⟩

/-! ## DAA after the addition or subtraction of BCD bytes (R280, R250, R251) -/

theorem bcd_toNat {n : Nat} (hn : n < 100) : (bcd n).toNat = n / 10 * 16 + n % 10 := by
  rw [bcd, BitVec.toNat_ofNat]
  omega

@[simp] theorem Flags.ofByte_pack (f : Flags) : Flags.ofByte f.pack = f := by
  simp only [Flags.ofByte, Flags.pack_z, Flags.pack_n, Flags.pack_h, Flags.pack_c]

/-- The digits of two decimal numbers and a carry are added apart, in decimal and in BCD. -/
theorem exists_add8_bcd_digits {x y : Nat} (hx : x < 100) (hy : y < 100) (cin : Bool) : ∃ tens units,
    tens ≤ 18 ∧ units ≤ 19 ∧ x + y + cin.toNat = 10 * tens + units ∧
    (add8 (bcd x) (bcd y) cin).1.toNat = (16 * tens + units) % 256 ∧
    ((add8 (bcd x) (bcd y) cin).2.h = true ↔ units > 0xF) ∧
    ((add8 (bcd x) (bcd y) cin).2.c = true ↔ 16 * tens + units > 0xFF) := by
  have c := cin.toNat_le
  refine ⟨x / 10 + y / 10, x % 10 + y % 10 + cin.toNat, by omega, by omega, by omega, ?_⟩
  rw [add8_toNat]
  simp only [add8, bcd_toNat hx, bcd_toNat hy, decide_eq_true_eq]
  omega

/-- With the low correction the units carry into the tens as in decimal; with the high one the tens carry out. -/
theorem corrected_digits {tens units : Nat} (ht : tens ≤ 18) (hu : units ≤ 19) :
    ((16 * tens + units) % 256 + (if units > 9 then 0x06 else 0) + (if 10 * tens + units > 99 then 0x60 else 0)) % 256 =
      (bcd ((10 * tens + units) % 100)).toNat := by
  have unitsCarry : 16 * tens + units + (if units > 9 then 0x06 else 0) =
      (10 * tens + units) / 10 * 16 + (10 * tens + units) % 10 := by
    split_ifs <;> omega
  have bound : 10 * tens + units < 200 := by omega
  rw [bcd_toNat (Nat.mod_lt _ (by decide))]
  generalize 10 * tens + units = n at *
  generalize (if units > 9 then 0x06 else 0) = low at *
  rcases Nat.lt_or_ge n 100 with h | h
  · rw [if_neg (by omega), Nat.mod_eq_of_lt h]
    omega
  · have wrap : n % 100 = n - 100 := by omega
    rw [if_pos (by omega), wrap]
    omega

/-- After an addition of BCD bytes each correction applies where its decimal digit overflows. -/
theorem daa_add8_bcd {x y : Nat} (hx : x < 100) (hy : y < 100) (cin : Bool) :
    (daa (add8 (bcd x) (bcd y) cin).1 (add8 (bcd x) (bcd y) cin).2).1 = bcd ((x + y + cin.toNat) % 100) ∧
    ((daa (add8 (bcd x) (bcd y) cin).1 (add8 (bcd x) (bcd y) cin).2).2.c = true ↔ 100 ≤ x + y + cin.toNat) := by
  obtain ⟨tens, units, ht, hu, decimal, value, hh, hc⟩ := exists_add8_bcd_digits hx hy cin
  have hn : (add8 (bcd x) (bcd y) cin).2.n = false := rfl
  rw [decimal]
  clear decimal
  generalize add8 (bcd x) (bcd y) cin = r at *
  have low : daaLow r.1 r.2 = if units > 9 then 0x06 else 0 := by
    refine if_congr ?_ rfl rfl
    simp only [hh, hn, value, true_and]
    omega
  have high : daaHigh r.1 r.2 = if 10 * tens + units > 99 then 0x60 else 0 := by
    refine if_congr ?_ rfl rfl
    simp only [hc, hn, value, true_and]
    obtain h | rfl | h := Nat.lt_trichotomy tens 9 <;> omega
  rw [daa_carry, high]
  constructor
  · apply BitVec.eq_of_toNat_eq
    rw [daa, daaAdjust_add _ hn, low, high, BitVec.toNat_ofNat, value, corrected_digits ht hu]
  · split_ifs <;> omega

/-- H and C of a subtraction of BCD bytes are the decimal borrows. -/
theorem sub8_bcd_borrows {x y : Nat} (hx : x < 100) (hy : y < 100) (cin : Bool) :
    ((sub8 (bcd x) (bcd y) cin).2.h = true ↔ x % 10 < y % 10 + cin.toNat) ∧
    ((sub8 (bcd x) (bcd y) cin).2.c = true ↔ x < y + cin.toNat) := by
  have c := cin.toNat_le
  simp only [sub8, bcd_toNat hx, bcd_toNat hy, decide_eq_true_eq]
  omega

/-- After a subtraction of BCD bytes each correction applies where its decimal digit borrows. -/
theorem daa_sub8_bcd {x y : Nat} (hx : x < 100) (hy : y < 100) (cin : Bool) :
    (daa (sub8 (bcd x) (bcd y) cin).1 (sub8 (bcd x) (bcd y) cin).2).1 = bcd ((x + 100 - y - cin.toNat) % 100) ∧
    ((daa (sub8 (bcd x) (bcd y) cin).1 (sub8 (bcd x) (bcd y) cin).2).2.c = true ↔ x < y + cin.toNat) := by
  have c := cin.toNat_le
  have hn : (sub8 (bcd x) (bcd y) cin).2.n = true := rfl
  obtain ⟨hh, hc⟩ := sub8_bcd_borrows hx hy cin
  have value : (sub8 (bcd x) (bcd y) cin).1.toNat = _ := BitVec.toNat_ofInt ..
  rw [bcd_toNat hx, bcd_toNat hy] at value
  generalize sub8 (bcd x) (bcd y) cin = r at *
  have low : daaLow r.1 r.2 = if x % 10 < y % 10 + cin.toNat then 0x06 else 0 := by
    simp only [daaLow, hh, hn, Bool.true_eq_false, false_and, or_false]
  have high : daaHigh r.1 r.2 = if x < y + cin.toNat then 0x60 else 0 := by
    simp only [daaHigh, hc, hn, Bool.true_eq_false, false_and, or_false]
  rw [daa_carry, high]
  constructor
  · apply BitVec.eq_of_toNat_eq
    rw [daa, daaAdjust_sub _ hn, low, high, BitVec.toNat_ofNat, value, bcd_toNat (Nat.mod_lt _ (by decide))]
    split_ifs <;> omega
  · split_ifs <;> omega

/-- An operation with an immediate and then DAA both complete; A and C are what DAA makes of the operation's result. -/
theorem exec_ofAluImm_daa (op : AluOp) (n : Byte) (s : State) : ∃ t u,
    exec (.ofAluImm op n) s = .next t ∧ exec .daa t = .next u ∧
    u.regs.a = (daa (alu op s.regs.a n s.cf).1 (alu op s.regs.a n s.cf).2).1 ∧
    u.cf = (daa (alu op s.regs.a n s.cf).1 (alu op s.regs.a n s.cf).2).2.c := by
  have first := (exec_ofAluImm op n s).trans (instr_setA_setFlags s (fun t => alu op t.regs.a n t.flags.c) 2 8)
  exact ⟨_, _, first, instr_setA_setFlags _ (fun t => daa t.regs.a t.flags) 1 4,
    congrArg (fun f => (daa _ f).1) (Flags.ofByte_pack _),
    (Flags.pack_c _).trans (congrArg (fun f => (daa _ f).2.c) (Flags.ofByte_pack _))⟩

/-- Settles O42: the operation is `add8` or `sub8` of two BCD bytes, which `daa` makes decimal. -/
theorem daaMakesBcdArithmeticDecimal : Obligations.DaaMakesBcdArithmeticDecimal := by
  intro s x y op hx hy ha hop cin
  obtain ⟨t, u, ht, hu, a, c⟩ := exec_ofAluImm_daa op (bcd y) s
  have hcin : cin = ((op == .adc || op == .sbc) && s.cf).toNat := by simp [cin, Bool.toNat, Bool.cond_eq_ite]
  refine ⟨t, u, ht, hu, ?_⟩
  rw [a, c, ha, hcin]
  rcases hop with rfl | rfl | rfl | rfl
  · exact ⟨fun _ => daa_add8_bcd hx hy false, fun h => absurd h (by decide)⟩
  · exact ⟨fun _ => daa_add8_bcd hx hy s.cf, fun h => absurd h (by decide)⟩
  · exact ⟨fun h => absurd h (by decide), fun _ => daa_sub8_bcd hx hy false⟩
  · exact ⟨fun h => absurd h (by decide), fun _ => daa_sub8_bcd hx hy s.cf⟩

end Sys2Proof.Machine

/-! # 16-bit arithmetic (42_alu16.md)

INC rr and DEC rr are writes of a pair; ADD HL,rr, ADD SP,e8 and LD HL,SP+e8 write a word and the flags that `addHl` and
`spOffset` compute. -/

namespace Sys2Proof.Machine

/-! ## What the helpers compute (R300, R301) -/

theorem addHl_toNat (hl v : Word) (f : Flags) : (addHl hl v f).1.toNat = (hl.toNat + v.toNat) % 65536 :=
  BitVec.toNat_ofNat _ 16

theorem addHl_flags (hl v : Word) (f : Flags) : FlagsAre (addHl hl v f).2.pack (f.z = true) False
    (hl.toNat % 0x1000 + v.toNat % 0x1000 > 0xFFF) (hl.toNat + v.toNat > 0xFFFF) :=
  .of_pack Iff.rfl Bool.false_eq_true.to_iff decide_eq_true_iff decide_eq_true_iff

/-- The sum with the sign-extended byte is the signed sum modulo 2^16. -/
theorem spOffset_eq_ofInt (sp : Word) (e : Byte) :
    (spOffset sp e).1 = BitVec.ofInt 16 ((sp.toNat : Int) + e.toInt) := by
  rw [BitVec.ofInt_add, BitVec.ofInt_natCast, BitVec.ofNat_toNat, BitVec.setWidth_eq]
  rfl

theorem spOffset_flags (sp : Word) (e : Byte) : FlagsAre (spOffset sp e).2.pack False False
    (sp.toNat % 16 + e.toNat % 16 > 0xF) (sp.toNat % 256 + e.toNat > 0xFF) :=
  .of_pack Bool.false_eq_true.to_iff Bool.false_eq_true.to_iff decide_eq_true_iff decide_eq_true_iff

/-! ## Encodings (R301, R302, R303) -/

theorem encode_ofAddHl (p : R16) : encode (.ofAddHl p) = [(0#2 ++ p.code ++ 9#4 : BitVec 8)] := by
  cases p <;> rfl

theorem encode_ofIncPair (p : R16) : encode (.ofIncPair p) = [(0#2 ++ p.code ++ 3#4 : BitVec 8)] := by
  cases p <;> rfl

theorem encode_ofDecPair (p : R16) : encode (.ofDecPair p) = [(0#2 ++ p.code ++ 0xB#4 : BitVec 8)] := by
  cases p <;> rfl

/-! ## ADD HL,rr, INC rr and DEC rr (R301, R302, R303) -/

/-- The operand `rr` reads as the pair's value, wherever PC is. -/
theorem State.get16_pc (s : State) (p : R16) (q : Word) : { s with pc := q }.get16 p = s.pairValue p := by
  cases p <;> rfl

theorem exec_ofAddHl (p : R16) (s : State) : exec (.ofAddHl p) s = .next { s with
    regs := { s.regs.setHl (addHl s.regs.hl (s.pairValue p) s.flags).1 with
      f := (addHl s.regs.hl (s.pairValue p) s.flags).2.pack }
    pc := s.pc + 1
    cycles := 8 } := by
  cases p <;> rfl

theorem exec_ofIncPair (p : R16) (s : State) : exec (.ofIncPair p) s = instr 1 8 (incPair p) s := by
  cases p <;> rfl

theorem exec_ofDecPair (p : R16) (s : State) : exec (.ofDecPair p) s = instr 1 8 (decPair p) s := by
  cases p <;> rfl

/-- Settles O43: INC and DEC are writes of a pair; ADD writes HL with the sum `addHl` and F with its flags. -/
theorem pairArithmetic : Obligations.PairArithmetic := by
  intro s p hl v
  have hhl : hl = s.regs.hl.toNat := (cat_toNat ..).symm
  refine ⟨encode_ofAddHl p, encode_ofIncPair p, encode_ofDecPair p, ⟨_, _, _, exec_ofAddHl p s, ?sum, ?flags⟩,
    ?inc, ?dec⟩
  case sum =>
    rw [← cat_toNat, hhl, ← addHl_toNat s.regs.hl _ s.flags]
    exact congrArg BitVec.toNat (cat_hiByte_loByte _)
  case flags =>
    rw [hhl]
    exact addHl_flags ..
  case inc =>
    rw [exec_ofIncPair, ← State.get16_pc s p (s.pc + 1)]
    exact instr_put16_setsPair s p (fun t => t.get16 p + 1) 1 8
  case dec =>
    rw [exec_ofDecPair, ← State.get16_pc s p (s.pc + 1)]
    exact instr_put16_setsPair s p (fun t => t.get16 p - 1) 1 8

/-! ## ADD SP,e8 and LD HL,SP+e8 (R304, R305) -/

theorem exec_addSpE8 (e : Byte) (s : State) : exec (.addSpE8 e) s = .next { s with
    regs := { s.regs with f := (spOffset s.sp e).2.pack }
    sp := (spOffset s.sp e).1
    pc := s.pc + 2
    cycles := 16 } :=
  rfl

theorem exec_ldHlSpE8 (e : Byte) (s : State) : exec (.ldHlSpE8 e) s = .next { s with
    regs := { s.regs.setHl (spOffset s.sp e).1 with f := (spOffset s.sp e).2.pack }
    pc := s.pc + 2
    cycles := 12 } :=
  rfl

/-- Settles O44: both write the word and the flags of `spOffset`. -/
theorem stackPointerOffset : Obligations.StackPointerOffset := by
  intro s e v flags
  have hv : v = (spOffset s.sp e).1 := (spOffset_eq_ofInt ..).symm
  rw [hv]
  exact ⟨rfl, rfl, ⟨_, exec_addSpE8 e s, spOffset_flags ..⟩, ⟨_, exec_ldHlSpE8 e s, spOffset_flags ..⟩⟩

end Sys2Proof.Machine

/-! # Rotates, shifts and bits (43_rotate_shift_bit.md)

`rotate` says of every operation what the rules say bit by bit; each instruction of a family is one body, a
read-modify-write or a write of its operand. -/

namespace Sys2Proof

theorem forall_bitVec3 {P : BitVec 3 → Prop} (h0 : P 0) (h1 : P 1) (h2 : P 2) (h3 : P 3) (h4 : P 4) (h5 : P 5)
    (h6 : P 6) (h7 : P 7) : ∀ k, P k := by
  rintro ⟨k, hk⟩
  interval_cases k <;> assumption

end Sys2Proof

namespace Sys2Proof.Machine

/-! ## What the helpers compute (R330 to R356) -/

/-- A shift to the left moves every bit up and lets `cin` in at the bottom. -/
theorem getLsbD_shiftInLow (v : Byte) (cin : Bool) {j : Nat} (hj : j < 8) :
    (v.extractLsb' 0 7 ++ BitVec.ofBool cin : Byte).getLsbD j = if j = 0 then cin else v.getLsbD (j - 1) := by
  rw [BitVec.append_ofBool, BitVec.getLsbD_concat, BitVec.getLsbD_extractLsb', Nat.zero_add]
  split
  · rfl
  · rw [decide_eq_true (by omega : j - 1 < 7), Bool.true_and]

/-- A shift to the right moves every bit down and lets `cin` in at the top. -/
theorem getLsbD_shiftInHigh (v : Byte) (cin : Bool) {j : Nat} (hj : j < 8) :
    (BitVec.ofBool cin ++ v.extractLsb' 1 7 : Byte).getLsbD j = if j = 7 then cin else v.getLsbD (j + 1) := by
  rw [BitVec.getLsbD_append, BitVec.getLsbD_extractLsb', BitVec.getLsbD_ofBool, Nat.add_comm 1 j]
  split
  · rw [decide_eq_true ‹j < 7›, Bool.true_and, if_neg (by omega)]
  · obtain rfl : j = 7 := by omega
    rfl

/-- With the top bit let in again, the shift to the right is the arithmetic one. -/
theorem shiftInHigh_msb (v : Byte) :
    (BitVec.ofBool (v.getLsbD 7) ++ v.extractLsb' 1 7 : Byte) = v.sshiftRight 1 := by
  apply BitVec.eq_of_getLsbD_eq
  intro j hj
  rw [getLsbD_shiftInHigh v _ hj, BitVec.getLsbD_sshiftRight, decide_eq_false (by omega : ¬ 8 ≤ j), Nat.add_comm 1 j]
  split
  · rw [if_neg (by omega)]
    rfl
  · rw [if_pos (by omega)]
    rfl

theorem shiftInLow_zero_toNat (v : Byte) : (v.extractLsb' 0 7 ++ 0#1 : Byte).toNat = v.toNat * 2 % 256 := by
  have shifted : v <<< 1 = (v.extractLsb' 0 7 ++ 0#1 : Byte) := BitVec.shiftLeft_eq_concat_of_lt (by decide : 1 < 8)
  rw [← shifted, BitVec.toNat_shiftLeft, Nat.shiftLeft_eq]

theorem shiftInHigh_zero_toNat (v : Byte) : (0#1 ++ v.extractLsb' 1 7 : Byte).toNat = v.toNat / 2 := by
  have shifted : v >>> 1 = (0#1 ++ v.extractLsb' 1 7 : Byte) :=
    BitVec.ushiftRight_eq_extractLsb'_of_lt (by decide : 1 < 8)
  rw [← shifted, BitVec.toNat_ushiftRight, Nat.shiftRight_eq_div_pow]

theorem swapNibbles_toNat (v : Byte) :
    (v.extractLsb' 0 4 ++ v.extractLsb' 4 4 : Byte).toNat = v.toNat % 16 * 16 + v.toNat / 16 := by
  have h := v.isLt
  rw [BitVec.toNat_append, ← Nat.shiftLeft_add_eq_or_of_lt (v.extractLsb' 4 4).isLt, Nat.shiftLeft_eq,
    BitVec.extractLsb'_toNat, BitVec.extractLsb'_toNat, Nat.shiftRight_eq_div_pow, Nat.shiftRight_eq_div_pow]
  omega

/-- `rotate` computes what the rules say of the result and of the outgoing carry. -/
theorem rotated_rotate (op : RotOp) (v : Byte) (cin : Bool) :
    rotated op v cin (rotate op v cin).1 (rotate op v cin).2 := by
  cases op with
  | rlc => exact ⟨fun _ => getLsbD_shiftInLow v _, rfl⟩
  | rrc => exact ⟨fun _ => getLsbD_shiftInHigh v _, rfl⟩
  | rl => exact ⟨fun _ => getLsbD_shiftInLow v _, rfl⟩
  | rr => exact ⟨fun _ => getLsbD_shiftInHigh v _, rfl⟩
  | sla => exact ⟨shiftInLow_zero_toNat v, rfl⟩
  | sra => exact ⟨shiftInHigh_msb v, rfl⟩
  | swap => exact ⟨swapNibbles_toNat v, rfl⟩
  | srl => exact ⟨shiftInHigh_zero_toNat v, rfl⟩

theorem rotateFlags_flags (w : Byte) (c : Bool) : FlagsAre (rotateFlags w c).pack (w = 0) False False (c = true) :=
  .of_pack beq_iff_eq Bool.false_eq_true.to_iff Bool.false_eq_true.to_iff Iff.rfl

theorem rotateAFlags_flags (c : Bool) : FlagsAre (rotateAFlags c).pack False False False (c = true) :=
  .of_pack Bool.false_eq_true.to_iff Bool.false_eq_true.to_iff Bool.false_eq_true.to_iff Iff.rfl

theorem bitFlags_flags (b : BitVec 3) (v : Byte) (f : Flags) :
    FlagsAre (bitFlags b v f).pack (v.getLsbD b.toNat = false) False True (f.c = true) :=
  .of_pack (Bool.not_eq_true' _).to_iff Bool.false_eq_true.to_iff (iff_true_intro rfl) Iff.rfl

theorem getLsbD_bitMask (b : BitVec 3) (j : Nat) : ((1 : Byte) <<< b.toNat).getLsbD j = decide (j = b.toNat) := by
  rw [show (1 : Byte) <<< b.toNat = BitVec.twoPow 8 b.toNat from rfl, BitVec.getLsbD_twoPow, decide_eq_true b.isLt,
    Bool.true_and, decide_eq_decide]
  exact eq_comm

theorem getLsbD_resBit (b : BitVec 3) (v : Byte) {j : Nat} (hj : j < 8) :
    (resBit b v).getLsbD j = if j = b.toNat then false else v.getLsbD j := by
  rw [resBit, BitVec.getLsbD_and, BitVec.getLsbD_not, getLsbD_bitMask, decide_eq_true hj]
  split <;> simp [*]

theorem getLsbD_setBit (b : BitVec 3) (v : Byte) (j : Nat) :
    (setBit b v).getLsbD j = if j = b.toNat then true else v.getLsbD j := by
  rw [setBit, BitVec.getLsbD_or, getLsbD_bitMask]
  split <;> simp [*]

/-! ## Encodings (R335 to R356) -/

theorem encode_ofRot (op : RotOp) (z : R8) : encode (.ofRot op z) = [0xCB, (0#2 ++ op.code ++ z.code : BitVec 8)] := by
  cases op <;> cases z <;> rfl

theorem encode_ofBit (z : R8) : ∀ b, encode (.ofBit b z) = [0xCB, (1#2 ++ b ++ z.code : BitVec 8)] := by
  cases z <;> exact forall_bitVec3 rfl rfl rfl rfl rfl rfl rfl rfl

theorem encode_ofRes (z : R8) : ∀ b, encode (.ofRes b z) = [0xCB, (2#2 ++ b ++ z.code : BitVec 8)] := by
  cases z <;> exact forall_bitVec3 rfl rfl rfl rfl rfl rfl rfl rfl

theorem encode_ofSet (z : R8) : ∀ b, encode (.ofSet b z) = [0xCB, (3#2 ++ b ++ z.code : BitVec 8)] := by
  cases z <;> exact forall_bitVec3 rfl rfl rfl rfl rfl rfl rfl rfl

/-! ## Accumulator rotates (R330 to R333) -/

theorem instr_rotateA_setsAF {op : RotOp} {s : State} {P : Byte → Byte → Prop}
    (h : P (rotate op s.regs.a s.cf).1 (rotateAFlags (rotate op s.regs.a s.cf).2).pack) :
    SetsAF (instr 1 4 (rotateA op) s) s 1 4 P :=
  ⟨_, _, rfl, h⟩

/-- Settles O45: each is `rotateA` of the rotate it is named for. -/
theorem accumulatorRotates : Obligations.AccumulatorRotates := by
  intro s a left right
  have bits (op : RotOp) := rotated_rotate op a s.cf
  exact ⟨rfl, rfl, rfl, rfl,
    instr_rotateA_setsAF (op := .rlc) ⟨(bits .rlc).1, rotateAFlags_flags _⟩,
    instr_rotateA_setsAF (op := .rrc) ⟨(bits .rrc).1, rotateAFlags_flags _⟩,
    instr_rotateA_setsAF (op := .rl) ⟨(bits .rl).1, rotateAFlags_flags _⟩,
    instr_rotateA_setsAF (op := .rr) ⟨(bits .rr).1, rotateAFlags_flags _⟩⟩

/-! ## CB rotates and shifts (R335 to R350) -/

/-- The meanings of the CB rotates and shifts are one body. -/
theorem exec_ofRot (op : RotOp) (z : R8) (s : State) :
    exec (.ofRot op z) s = instr 2 (regOrMem z 8 16) (rotateOperand op z) s := by
  cases op <;> cases z <;> rfl

/-- Settles O46: each is a read-modify-write of the register. -/
theorem rotatesAndShiftsOfARegister : Obligations.RotatesAndShiftsOfARegister := by
  intro s op z hz
  refine ⟨encode_ofRot op z, (rotate op (s.operand z) s.cf).2, ?_⟩
  rw [exec_ofRot, show regOrMem z 8 16 = 8 from if_neg hz]
  exact ⟨_, _, instr_modify_register s hz _ 2 8, rotated_rotate .., rotateFlags_flags ..⟩

/-- Settles O47: each is a read-modify-write of the byte at HL. -/
theorem rotatesAndShiftsOfMemory : Obligations.RotatesAndShiftsOfMemory := by
  intro s op hl
  refine ⟨encode_ofRot op .mem, _, _, _, rotated_rotate op (s.read hl) s.cf, rotateFlags_flags .., ?_⟩
  rw [exec_ofRot]
  exact modify_outcome s _ 2 16

/-! ## BIT (R351, R352) -/

/-- The meanings of BIT are one body. -/
theorem exec_ofBit (z : R8) (s : State) :
    ∀ b, exec (.ofBit b z) s = instr 2 (regOrMem z 8 12) (testBit b z) s := by
  cases z <;> exact forall_bitVec3 rfl rfl rfl rfl rfl rfl rfl rfl

theorem instr_testBit (s : State) (b : BitVec 3) (z : R8) (n : Nat) : instr 2 n (testBit b z) s = .next { s with
    regs := { s.regs with f := (bitFlags b (s.operand z) s.flags).pack }
    pc := s.pc + 2
    cycles := n } := by
  rw [instr, testBit, conclude_done, State.get8_operand, State.operand_pc]
  rfl

/-- Settles O48: BIT writes the flags of the operand's bit and nothing else. -/
theorem bitTests : Obligations.BitTests := by
  intro s b z
  refine ⟨encode_ofBit z b, _, ?_, bitFlags_flags b (s.operand z) s.flags⟩
  rw [exec_ofBit, instr_testBit]

/-! ## RES and SET (R353 to R356) -/

/-- The meanings of RES are one body. -/
theorem exec_ofRes (z : R8) (s : State) :
    ∀ b, exec (.ofRes b z) s = instr 2 (regOrMem z 8 16) (resetBit b z) s := by
  cases z <;> exact forall_bitVec3 rfl rfl rfl rfl rfl rfl rfl rfl

/-- The meanings of SET are one body. -/
theorem exec_ofSet (z : R8) (s : State) :
    ∀ b, exec (.ofSet b z) s = instr 2 (regOrMem z 8 16) (setBitOf b z) s := by
  cases z <;> exact forall_bitVec3 rfl rfl rfl rfl rfl rfl rfl rfl

/-- An operand is replaced by `g` of it: a store at HL for `(HL)`, else a write of the register. -/
theorem instr_put8_get8 (s : State) (z : R8) (g : Byte → Byte) :
    instr 2 (regOrMem z 8 16) (fun t => t.put8 z (g (t.get8 z))) s =
      if z = .mem then storeOutcome s s.regs.hl (g (s.operand z)) 2 16 s.regs
      else .next { s with regs := s.regs.put z (g (s.operand z)), pc := s.pc + 2, cycles := 8 } := by
  rw [← State.operand_pc s z (s.pc + 2), ← State.get8_operand]
  split
  · next hz =>
    subst hz
    exact instr_put8_mem s (fun t => g (t.get8 .mem)) 2 16
  · next hz =>
    rw [show regOrMem z 8 16 = 8 from if_neg hz]
    exact instr_put8_register s hz (fun t => g (t.get8 z)) 2 8

/-- Settles O49: each replaces the operand by itself with the one bit reset or set. -/
theorem bitResetsAndSets : Obligations.BitResetsAndSets := by
  intro s b z set
  cases set with
  | false =>
    exact ⟨encode_ofRes z b, _, fun _ => getLsbD_resBit b (s.operand z),
      (exec_ofRes z s b).trans (instr_put8_get8 s z (resBit b))⟩
  | true =>
    exact ⟨encode_ofSet z b, _, fun j _ => getLsbD_setBit b (s.operand z) j,
      (exec_ofSet z s b).trans (instr_put8_get8 s z (setBit b))⟩

end Sys2Proof.Machine

/-! # Jumps, calls and returns (44_control.md)

A conditional transfer is the unconditional one where its condition is met, and else only moves on; so each family is
settled by its unconditional body. -/

namespace Sys2Proof.Machine

/-! ## Encodings (R382, R385, R387, R389, R391) -/

theorem encode_ofJp (cc : Cond) (a : Word) :
    encode (.ofJp cc a) = [(6#3 ++ cc.code ++ 2#3 : BitVec 8), loByte a, hiByte a] := by
  cases cc <;> rfl

theorem encode_ofJr (cc : Cond) (e : Byte) : encode (.ofJr cc e) = [(1#3 ++ cc.code ++ 0#3 : BitVec 8), e] := by
  cases cc <;> rfl

theorem encode_ofCall (cc : Cond) (a : Word) :
    encode (.ofCall cc a) = [(6#3 ++ cc.code ++ 4#3 : BitVec 8), loByte a, hiByte a] := by
  cases cc <;> rfl

theorem encode_ofRet (cc : Cond) : encode (.ofRet cc) = [(6#3 ++ cc.code ++ 0#3 : BitVec 8)] := by
  cases cc <;> rfl

theorem encode_ofRst : ∀ y, encode (.ofRst y) = [(3#2 ++ y ++ 7#3 : BitVec 8)] :=
  forall_bitVec3 rfl rfl rfl rfl rfl rfl rfl rfl

/-! ## The body of each family -/

theorem exec_ofJp (cc : Cond) (a : Word) (s : State) : exec (.ofJp cc a) s = instrIf cc 3 12 16 (jump a) s := by
  cases cc <;> rfl

theorem exec_ofJr (cc : Cond) (e : Byte) (s : State) : exec (.ofJr cc e) s = instrIf cc 2 8 12 (jumpRel e) s := by
  cases cc <;> rfl

theorem exec_ofCall (cc : Cond) (a : Word) (s : State) :
    exec (.ofCall cc a) s = instrIf cc 3 12 24 (call a) s := by
  cases cc <;> rfl

theorem exec_ofRet (cc : Cond) (s : State) : exec (.ofRet cc) s = instrIf cc 1 8 20 ret s := by
  cases cc <;> rfl

theorem exec_ofRst (s : State) :
    ∀ y : BitVec 3, exec (.ofRst y) s = instr 1 16 (call (BitVec.ofNat 16 (y.toNat * 8))) s :=
  forall_bitVec3 rfl rfl rfl rfl rfl rfl rfl rfl

/-- A conditional transfer that is not taken changes only PC and the cycle count (R158, R159, R380). -/
theorem instrIf_eq (cc : Cond) (len n taken : Nat) (body : State → Effect) (s : State) :
    instrIf cc len n taken body s = if s.met cc then instr len taken body s
      else .next { s with pc := s.pc + BitVec.ofNat 16 len, cycles := n } := by
  rw [instrIf, State.met_eq]
  rfl

theorem instrIf_next {cc : Cond} {len n taken : Nat} {body : State → Effect} {s t : State}
    (h : instr len taken body s = .next t) : instrIf cc len n taken body s =
      .next (if s.met cc then t else { s with pc := s.pc + BitVec.ofNat 16 len, cycles := n }) := by
  rw [instrIf_eq, h]
  split <;> rfl

/-! ## Jumps (R381 to R385) -/

theorem instr_jump (s : State) (a : Word) (len n : Nat) :
    instr len n (jump a) s = .next { s with pc := a, cycles := n } :=
  rfl

/-- A relative target counts from the next instruction, modulo 2^16. -/
theorem add_sext16_eq_ofInt (pc : Word) (e : Byte) :
    pc + 2 + sext16 e = BitVec.ofInt 16 ((pc.toNat : Int) + 2 + e.toInt) := by
  rw [BitVec.ofInt_add, BitVec.ofInt_add, BitVec.ofInt_natCast, BitVec.ofNat_toNat, BitVec.setWidth_eq]
  rfl

theorem instr_jumpRel (s : State) (e : Byte) (n : Nat) : instr 2 n (jumpRel e) s =
    .next { s with pc := BitVec.ofInt 16 ((s.pc.toNat : Int) + 2 + e.toInt), cycles := n } := by
  rw [← add_sext16_eq_ofInt]
  rfl

/-- Settles O50: each jump writes PC with its target, a conditional one where its condition is met. -/
theorem jumps : Obligations.Jumps := by
  intro s cc a e rel
  refine ⟨rfl, instr_jump s a 3 16, encode_ofJp cc a, ?jp, rfl, instr_jump s s.regs.hl 1 4, rfl,
    instr_jumpRel s e 12, encode_ofJr cc e, ?jr⟩
  case jp =>
    rw [exec_ofJp]
    exact instrIf_next (instr_jump s a 3 16)
  case jr =>
    rw [exec_ofJr]
    exact instrIf_next (instr_jumpRel s e 12)

/-! ## Calls and restarts (R386, R387, R391) -/

/-- Settles O51: each is a push of the address of the next instruction that goes on at the target. -/
theorem callsAndRestarts : Obligations.CallsAndRestarts := by
  intro s cc a y
  refine ⟨rfl, call_outcome s a 3 24, encode_ofCall cc a, ?call, encode_ofRst y, ?rst⟩
  case call =>
    rw [exec_ofCall, instrIf_eq, call_outcome]
    rfl
  case rst =>
    rw [exec_ofRst]
    exact call_outcome s _ 1 16

/-! ## Returns (R388, R389, R390) -/

theorem instr_ret (s : State) (len n : Nat) :
    instr len n ret s = .next { s with pc := s.pop16.1, sp := s.sp + 2, cycles := n } := by
  rw [instr, ret, State.pop16_pc, conclude_done]

theorem exec_reti (s : State) : exec .reti s =
    .next { s with pc := s.pop16.1, sp := s.sp + 2, ime := true, eiDelay := 0, cycles := 16 } := by
  rw [show exec .reti s = instr 1 16 State.returnFromInterrupt s from rfl, instr, State.returnFromInterrupt,
    State.pop16_pc, conclude_done]

/-- Settles O52: each writes PC with the word popped, RET cc where its condition is met. -/
theorem returns : Obligations.Returns := by
  intro s cc target
  refine ⟨rfl, exec_ret s, encode_ofRet cc, ?ret, rfl, exec_reti s⟩
  case ret =>
    rw [exec_ofRet]
    exact instrIf_next (instr_ret s 1 20)

end Sys2Proof.Machine

/-! # System instructions (45_system.md)

The outcome of each instruction, given whole; and the EI countdown: a step that completes leaves the IME and `ei_delay` of
the countdown after its instruction. -/

namespace Sys2Proof.Machine

/-! ## NOP, the undefined opcodes, DI and EI (R420, R423 to R425) -/

theorem encode_ofUndef (u : Undef) : encode (.ofUndef u) = [u.opcode] := by
  cases u <;> rfl

theorem exec_nop (s : State) : exec .nop s = .next { s with pc := s.pc + 1, cycles := 4 } := rfl

/-- The eleven undefined opcodes have one meaning. -/
theorem exec_ofUndef (u : Undef) (s : State) : exec (.ofUndef u) s = .next { s with pc := s.pc + 1, cycles := 0 } := by
  cases u <;> rfl

theorem exec_di (s : State) :
    exec .di s = .next { s with ime := false, eiDelay := 0, pc := s.pc + 1, cycles := 4 } := rfl

theorem exec_ei (s : State) : exec .ei s = .next { s with
    eiDelay := if s.ime = false ∧ s.eiDelay = 0 then 2 else s.eiDelay, pc := s.pc + 1, cycles := 4 } := by
  rw [show exec .ei s = execEi s from rfl, execEi, instr, conclude_done]
  dsimp only
  split <;> rfl

/-- Settles O53: each instruction's outcome, and the encodings. -/
theorem nopUndefinedDiAndEi : Obligations.NopUndefinedDiAndEi := fun s u =>
  ⟨rfl, exec_nop s, encode_ofUndef u, exec_ofUndef u s, rfl, exec_di s, rfl, exec_ei s⟩

/-! ## HALT and STOP (R421, R422) -/

/-- HALT in `Standard` mode waits where nothing is pending, moves on where an interrupt will be taken, and else faults. -/
theorem exec_halt_standard {s : State} (mode : s.launch.params.irqMode = .standard) : exec .halt s =
    if s.pending = 0 then .next { s with halted := true, pc := s.pc + 1, cycles := 4 }
    else if s.ime then .next { s with pc := s.pc + 1, cycles := 4 }
    else raiseFault (.haltBug s.pc) s.pc { s with pc := s.pc + 1 } := by
  rw [exec_halt, instr, halt]
  simp only [mode]
  change conclude _ _ (if s.pending = 0 then _ else if s.ime then _ else _) = _
  split
  · rfl
  · split <;> rfl

theorem exec_halt_failLoudly {s : State} (mode : s.launch.params.irqMode = .failLoudly) :
    exec .halt s = raiseFault (.halt s.pc) s.pc { s with pc := s.pc + 1 } := by
  rw [exec_halt, instr, halt]
  simp only [mode, conclude_raise]
  rfl

/-- The byte after STOP's opcode is skipped, and the fault is raised with PC after it. -/
theorem exec_stop (n : Byte) (s : State) :
    exec (.stop n) s = raiseFault (.stop s.pc) s.pc { s with pc := s.pc + 2 } := rfl

/-- Settles O54, by the branches of HALT in each mode. -/
theorem haltAndStop : Obligations.HaltAndStop := by
  intro s n
  refine ⟨rfl, ?waits, ?taken, ?bug, exec_halt_failLoudly, rfl, exec_stop n s⟩
  case waits =>
    intro mode nothing
    rw [exec_halt_standard mode, if_pos nothing]
  case taken =>
    intro mode pending ime
    rw [exec_halt_standard mode, if_neg pending, if_pos ime]
  case bug =>
    intro mode pending ime
    rw [exec_halt_standard mode, if_neg pending, if_neg (by simp [ime])]
    rfl

/-! ## The EI countdown (R424, 10_state.md R39, 60_exceptions.md R475) -/

theorem State.countdown_of_zero {s : State} (h : s.eiDelay = 0) : s.countdown = s := by
  simp only [State.countdown, h]

theorem State.countdown_of_one {s : State} (h : s.eiDelay = 1) : s.countdown = { s with eiDelay := 0, ime := true } := by
  simp only [State.countdown, h]

theorem State.countdown_of_two {s : State} (h : s.eiDelay = 2) : s.countdown = { s with eiDelay := 1 } := by
  simp only [State.countdown, h]

@[simp] theorem sched_ime (c : Nat) (s : State) : (sched c s).ime = s.ime := by rw [sched_eq]

@[simp] theorem sched_eiDelay (c : Nat) (s : State) : (sched c s).eiDelay = s.eiDelay := by rw [sched_eq]

/-- With IME 0 no interrupt is taken: the step is the instruction at PC, the countdown and the scheduler. -/
theorem step_of_exec_next {s u : State} (running : s.fault = none) (awake : s.halted = false) (masked : s.ime = false)
    (h : exec s.fetch s = .next u) : step s = .next (sched u.cycles u.countdown) := by
  have same : { s with halted := false } = s := by rw [← awake]
  rw [step_executes running (by simp [awake]) (by simp [masked]), same, h]
  rfl

/-- A completing instruction other than DI that runs with the countdown at 1 is followed by IME 1: RETI sets IME itself,
EI does not restart the count, and no other instruction touches it. -/
theorem countdown_sets_ime {i : Instr} {s u : State} (one : s.eiDelay = 1) (h : exec i s = .next u) (di : i ≠ .di) :
    u.countdown.ime = true ∧ u.countdown.eiDelay = 0 := by
  by_cases reti : i = .reti
  · subst reti
    rw [exec_reti] at h
    cases h
    exact ⟨rfl, rfl⟩
  · have kept : u.eiDelay = 1 := by
      by_cases ei : i = .ei
      · subst ei
        rw [exec_ei] at h
        cases h
        simp [one]
      · obtain ⟨-, -, -, control, -⟩ := controlStateHasItsWriters i s u h
        rw [(control ei di reti).2, one]
    rw [State.countdown_of_one kept]
    exact ⟨rfl, rfl⟩

/-- Settles O13: the countdown after EI goes from 2 to 1, after the next instruction from 1 to 0; DI ends it. -/
theorem eiTakesEffectAfterTheNextInstruction : Obligations.EiTakesEffectAfterTheNextInstruction := by
  intro s running awake masked
  refine ⟨?ei, ?next, ?di⟩
  case ei =>
    intro zero fetched
    refine ⟨_, step_of_exec_next running awake masked (fetched ▸ exec_ei s), ?_⟩
    rw [sched_ime, sched_eiDelay, State.countdown_of_two (if_pos ⟨masked, zero⟩)]
    exact ⟨masked, rfl⟩
  case next =>
    intro one u h di
    refine ⟨_, step_of_exec_next running awake masked h, ?_⟩
    rw [sched_ime, sched_eiDelay]
    exact countdown_sets_ime one h di
  case di =>
    intro fetched
    refine ⟨_, step_of_exec_next running awake masked (fetched ▸ exec_di s), ?_⟩
    rw [sched_ime, sched_eiDelay, State.countdown_of_zero rfl]
    exact ⟨rfl, rfl⟩

end Sys2Proof.Machine

/-! # The scheduler (60_exceptions.md R468 to R474)

Cycles add up, so a line or a frame is its modes' transitions one after the other; `Scheduled` says what the whole loop
can write, and `Gpu.untilVblank` when it enters VBLANK. -/

namespace Sys2Proof.Machine

/-! ## Cycles in parts (R469) -/

theorem sched_zero {s : State} (h : s.gpu.acc < s.gpu.mode.duration) : sched 0 s = s :=
  sched_short h

/-- Either all cycles fit in the mode, or the transition comes in the first part, and fewer cycles are left to it. -/
theorem sched_add (c d : Nat) (s : State) : sched (c + d) s = sched d (sched c s) := by
  induction h : s.gpu.acc + c using Nat.strong_induction_on generalizing c s with
  | _ n ih =>
    have positive := s.gpu.mode.duration_ge
    by_cases short : s.gpu.acc + c < s.gpu.mode.duration
    · rw [sched_short short, sched, ← Nat.add_assoc]
      rfl
    · have start : (s.setAcc 0).transition.gpu.acc = 0 := State.transition_acc _
      have rest : s.gpu.acc + (c + d) - s.gpu.mode.duration = s.gpu.acc + c - s.gpu.mode.duration + d := by omega
      rw [sched_long (by omega), sched_long (Nat.le_of_not_lt short), rest]
      exact ih _ (by omega) _ _ rfl

/-- Settles O27: `sched_add`. -/
theorem schedulerCarriesCyclesForward : Obligations.SchedulerCarriesCyclesForward :=
  fun s c d => sched_add c d s

/-- `n` quanta of `c` cycles are `n * c` cycles. -/
theorem repeat_sched (c n : Nat) {s : State} (h : s.gpu.acc < s.gpu.mode.duration) :
    Nat.repeat (sched c) n s = sched (n * c) s := by
  induction n with
  | zero => rw [Nat.zero_mul, sched_zero h]; rfl
  | succ n ih => rw [Nat.succ_mul, sched_add, ← ih]; rfl

/-! ## One transition (R470, R471) -/

theorem State.transition_of_oamRead {s : State} (h : s.gpu.mode = .oamRead) : s.transition = s.setMode .vramRead := by
  simp only [State.transition, h]

theorem State.transition_of_vramRead {s : State} (h : s.gpu.mode = .vramRead) : s.transition = s.setMode .hblank := by
  simp only [State.transition, h]

theorem State.transition_of_hblank {s : State} (h : s.gpu.mode = .hblank) : s.transition =
    if s.gpu.scanline + 1 = 144 then s.nextLine.enterVblank else s.nextLine.setMode .oamRead := by
  simp only [State.transition, h]
  rfl

theorem State.transition_of_vblank {s : State} (h : s.gpu.mode = .vblank) : s.transition =
    if s.gpu.scanline + 1 = 154 then s.nextLine.wrapFrame else s.nextLine := by
  simp only [State.transition, h]
  rfl

/-- The cycles missing to the mode's duration make its transition, and no more. -/
theorem sched_left {s : State} {left : Nat} (h : s.gpu.acc + left = s.gpu.mode.duration) :
    sched left s = (s.setAcc 0).transition := by
  have positive := (s.setAcc 0).transition.gpu.mode.duration_ge
  have acc : (s.setAcc 0).transition.gpu.acc = 0 := State.transition_acc _
  rw [sched_long h.ge, h, Nat.sub_self, sched_zero (by omega)]

theorem Mode.duration_sel (m : Mode) : m.duration = m.sel 80 172 204 456 := by
  cases m <;> rfl

theorem Gpu.onFrame_iff {g : Gpu} : g.onFrame ↔ g.scanline < 154 ∧ (144 ≤ g.scanline ↔ g.mode = .vblank) :=
  Iff.rfl

/-- Settles O28: `sched_short` below the duration, `sched_left` at it, and each mode's transition. -/
theorem schedulerFollowsTheModeSequence : Obligations.SchedulerFollowsTheModeSequence := by
  intro s ok left total
  obtain ⟨onFrame, -⟩ := s.schedulerOk_iff.1 ok
  obtain ⟨lines, visible⟩ := Gpu.onFrame_iff.1 onFrame
  have total : s.gpu.acc + left = s.gpu.mode.duration := total.trans s.gpu.mode.duration_sel.symm
  have start {m : Mode} (h : s.gpu.mode = m) : (s.setAcc 0).gpu.mode = m := h
  rw [sched_left total]
  refine ⟨fun c hc => sched_short (by omega), State.transition_acc _, fun h => ?oam, fun h => ?vram, fun h => ?hblank,
    fun h => ?vblank⟩
  case oam =>
    rw [State.transition_of_oamRead (start h)]
    exact ⟨rfl, rfl⟩
  case vram =>
    rw [State.transition_of_vramRead (start h)]
    exact ⟨rfl, rfl⟩
  case hblank =>
    rw [State.transition_of_hblank (start h), State.setAcc_gpu]
    by_cases last : s.gpu.scanline = 143
    · simp [last]
    · simp [last]
  case vblank =>
    rw [State.transition_of_vblank (start h), State.setAcc_gpu]
    by_cases last : s.gpu.scanline = 153
    · simp [last]
    · have inside : (s.gpu.scanline + 1) % 154 = s.gpu.scanline + 1 := Nat.mod_eq_of_lt (by omega)
      simp [last, inside, h]

/-! ## Lines and frames (R468) -/

theorem State.setAcc_of_acc {s : State} {n : Nat} (h : s.gpu.acc = n) : s.setAcc n = s := by
  rw [← h, State.setAcc_self]

theorem State.setMode_of_mode {s : State} {m : Mode} (h : s.gpu.mode = m) : s.setMode m = s := by
  rw [← h]
  rfl

/-- From the beginning of a mode, its duration makes its transition. -/
theorem sched_mode {s : State} {m : Mode} (h : s.gpu.mode = m) (acc : s.gpu.acc = 0) :
    sched m.duration s = s.transition := by
  rw [sched_left (by rw [acc, h, Nat.zero_add]), State.setAcc_of_acc acc]

/-- A visible line from its beginning: three transitions. -/
theorem sched_visibleLine {s : State} (h : s.gpu.mode = .oamRead) (acc : s.gpu.acc = 0) : sched 456 s =
    if s.gpu.scanline + 1 = 144 then s.nextLine.enterVblank else s.nextLine := by
  have vram : (s.setMode .vramRead).gpu.mode = .vramRead := rfl
  have hblank : ((s.setMode .vramRead).setMode .hblank).gpu.mode = .hblank := rfl
  calc sched 456 s
    _ = sched Mode.hblank.duration (sched Mode.vramRead.duration (sched Mode.oamRead.duration s)) := by
      rw [← sched_add, ← sched_add]
      rfl
    _ = ((s.setMode .vramRead).setMode .hblank).transition := by
      rw [sched_mode h acc, State.transition_of_oamRead h, sched_mode vram acc, State.transition_of_vramRead vram,
        sched_mode hblank acc]
    _ = if s.gpu.scanline + 1 = 144 then s.nextLine.enterVblank else s.nextLine.setMode .oamRead :=
      State.transition_of_hblank hblank
    _ = _ := by rw [State.setMode_of_mode (s := s.nextLine) h]

theorem sched_blankLine {s : State} (h : s.gpu.mode = .vblank) (acc : s.gpu.acc = 0) : sched 456 s =
    if s.gpu.scanline + 1 = 154 then s.nextLine.wrapFrame else s.nextLine := by
  rw [← State.transition_of_vblank h]
  exact sched_mode h acc

/-- `n` lines further in the same part of the frame. -/
def State.skipLines (s : State) (n : Nat) : State := { s with gpu := { s.gpu with scanline := s.gpu.scanline + n } }

theorem sched_visibleLines {s : State} (h : s.gpu.mode = .oamRead) (acc : s.gpu.acc = 0) {n : Nat}
    (hn : s.gpu.scanline + n < 144) : sched (n * 456) s = s.skipLines n := by
  induction n with
  | zero => rw [Nat.zero_mul, sched_zero (by rw [acc, h]; decide)]; rfl
  | succ n ih =>
    have inside : (s.skipLines n).gpu.scanline + 1 ≠ 144 := Nat.ne_of_lt hn
    rw [Nat.succ_mul, sched_add, ih (by omega), sched_visibleLine (s := s.skipLines n) h acc, if_neg inside]
    rfl

theorem sched_blankLines {s : State} (h : s.gpu.mode = .vblank) (acc : s.gpu.acc = 0) {n : Nat}
    (hn : s.gpu.scanline + n < 154) : sched (n * 456) s = s.skipLines n := by
  induction n with
  | zero => rw [Nat.zero_mul, sched_zero (by rw [acc, h]; decide)]; rfl
  | succ n ih =>
    have inside : (s.skipLines n).gpu.scanline + 1 ≠ 154 := Nat.ne_of_lt hn
    rw [Nat.succ_mul, sched_add, ih (by omega), sched_blankLine (s := s.skipLines n) h acc, if_neg inside]
    rfl

theorem State.enterVblank_frames (s : State) : s.enterVblank.gpu.frames =
    s.gpu.frames + if s.launch.params.frameCountPoint = .vblankEntry then 1 else 0 := by
  rw [State.enterVblank_gpu]
  dsimp only
  split <;> rfl

theorem State.wrapFrame_frames (s : State) : s.wrapFrame.gpu.frames =
    s.gpu.frames + if s.launch.params.frameCountPoint = .frameWrap then 1 else 0 := by
  rw [State.wrapFrame_gpu]
  dsimp only
  split <;> rfl

/-- Each frame is counted once, wherever it is counted (R472). -/
theorem frameCountPoint_once (p : FrameCountPoint) :
    (if p = .vblankEntry then 1 else 0) + (if p = .frameWrap then 1 else 0) = 1 := by
  cases p <;> rfl

/-- From the beginning of a frame, 144 lines end in the VBLANK entry. -/
theorem sched_to_vblank {s : State} (h : s.gpu.mode = .oamRead) (line : s.gpu.scanline = 0) (acc : s.gpu.acc = 0) :
    sched (144 * 456) s = (s.skipLines 144).enterVblank := by
  have last : (s.skipLines 143).gpu.scanline + 1 = 144 := by rw [State.skipLines, line]
  rw [show 144 * 456 = 143 * 456 + 456 from rfl, sched_add, sched_visibleLines h acc (by omega),
    sched_visibleLine (s := s.skipLines 143) h acc, if_pos last]
  rfl

/-- From the VBLANK entry, ten lines end the frame. -/
theorem sched_to_wrap {s : State} (h : s.gpu.mode = .vblank) (line : s.gpu.scanline = 144) (acc : s.gpu.acc = 0) :
    sched (10 * 456) s = (s.skipLines 10).wrapFrame := by
  have last : (s.skipLines 9).gpu.scanline + 1 = 154 := by rw [State.skipLines, line]
  rw [show 10 * 456 = 9 * 456 + 456 from rfl, sched_add, sched_blankLines h acc (by omega),
    sched_blankLine (s := s.skipLines 9) h acc, if_pos last]
  rfl

/-- Settles O29: the 144 lines to the VBLANK entry and the ten to the wrap, one of which counts the frame. -/
theorem frameOf154LinesCountsOneFrame : Obligations.FrameOf154LinesCountsOneFrame := by
  intro s mode line acc ok t u
  have below : s.gpu.acc < s.gpu.mode.duration := by rw [acc, mode]; decide
  have ht : t = (s.skipLines 144).enterVblank :=
    (repeat_sched 456 144 below).trans (sched_to_vblank mode line acc)
  have line144 : s.gpu.scanline + 144 = 144 := by rw [line]
  have hu : u = ((s.skipLines 144).enterVblank.skipLines 10).wrapFrame :=
    calc u
      _ = sched (144 * 456 + 10 * 456) s := repeat_sched 456 154 below
      _ = sched (10 * 456) (s.skipLines 144).enterVblank := by rw [sched_add, sched_to_vblank mode line acc]
      _ = _ := sched_to_wrap rfl line144 acc
  have request : t.iflag = s.iflag ||| 0x01 := by
    rw [ht]
    exact Memory.read_write_same (State.memoryOk_wf ok)
  refine ⟨by rw [ht]; rfl, by rw [ht]; exact line144, by rw [ht]; exact acc, by rw [ht]; rfl, ?bit, ?entry,
    by rw [hu]; rfl, by rw [hu]; rfl, by rw [hu]; exact acc, ?wrap, by rw [hu]; rfl⟩
  case bit =>
    rw [request, BitVec.getLsbD_or]
    exact Bool.or_true _
  case entry =>
    rw [ht]
    exact (s.skipLines 144).enterVblank_frames
  case wrap =>
    calc u.gpu.frames
      _ = s.gpu.frames + (if s.launch.params.frameCountPoint = .vblankEntry then 1 else 0) +
          (if s.launch.params.frameCountPoint = .frameWrap then 1 else 0) := by
        rw [hu, State.wrapFrame_frames]
        exact congrArg (· + _) (s.skipLines 144).enterVblank_frames
      _ = s.gpu.frames + 1 := by rw [Nat.add_assoc, frameCountPoint_once]

/-! ## What the scheduler writes (R473, R474) -/

/-- What the scheduler may have done where it has taken `s` to `u`: nothing to memory but the VBlank request, which
comes with each frame-complete signal. -/
structure Scheduled (s u : State) : Prop where
  reads : ∀ k, k ≠ 0xFF0F → u.mem.read k = s.mem.read k
  signals : s.gpu.frameSignals ≤ u.gpu.frameSignals
  quiet : u.gpu.frameSignals = s.gpu.frameSignals → u.mem = s.mem
  memory : s.memoryOk = true → u.memoryOk = true
  request : s.memoryOk = true → u.gpu.frameSignals ≠ s.gpu.frameSignals → u.iflag = s.iflag ||| 0x01

theorem Scheduled.refl (s : State) : Scheduled s s :=
  ⟨fun _ _ => rfl, Nat.le_refl _, fun _ => rfl, id, fun _ n => absurd rfl n⟩

theorem Scheduled.setAcc {s u : State} (h : Scheduled s u) (n : Nat) : Scheduled s (u.setAcc n) :=
  ⟨h.reads, h.signals, h.quiet, h.memory, h.request⟩

theorem Scheduled.transition {s u : State} (h : Scheduled s u) : Scheduled s u.transition := by
  have memory (ok : s.memoryOk = true) := State.transition_memoryOk (h.memory ok)
  rcases u.transition_mem with ⟨mem, signals⟩ | ⟨mem, signals⟩
  · refine ⟨fun k hk => ?_, ?_, ?_, memory, ?_⟩
    · rw [mem, h.reads k hk]
    · rw [signals]; exact h.signals
    · rw [mem, signals]; exact h.quiet
    · rw [State.iflag, State.byte, mem, signals]; exact h.request
  · have entered := h.signals
    refine ⟨fun k hk => ?_, by omega, by omega, memory, fun ok _ => ?_⟩
    · rw [mem, Memory.read_write_other hk, h.reads k hk]
    · have entry : u.transition.iflag = u.iflag ||| 0x01 := by
        rw [State.iflag, State.byte, mem]
        exact Memory.read_write_same (State.memoryOk_wf (h.memory ok))
      rw [entry]
      by_cases before : u.gpu.frameSignals = s.gpu.frameSignals
      · rw [State.iflag, State.byte, h.quiet before]; rfl
      · rw [h.request ok before, BitVec.or_assoc, BitVec.or_self]

theorem sched_scheduled (c : Nat) (s : State) : Scheduled s (sched c s) :=
  sched_induction (P := Scheduled s) ((Scheduled.refl s).setAcc _) fun _ h _ => (h.setAcc _).transition

/-- IF after the scheduler, bit by bit. -/
theorem sched_iflag_getLsbD (c : Nat) {s : State} (ok : s.memoryOk = true) {j : Nat} (hj : j < 8) :
    (sched c s).iflag.getLsbD j =
      (s.iflag.getLsbD j || (j == 0 && (sched c s).gpu.frameSignals != s.gpu.frameSignals)) := by
  have writes := sched_scheduled c s
  by_cases quiet : (sched c s).gpu.frameSignals = s.gpu.frameSignals
  · rw [State.iflag, State.byte, writes.quiet quiet, quiet, bne_self_eq_false, Bool.and_false, Bool.or_false]
    rfl
  · have bit : (0x01 : Byte).getLsbD j = (j == 0) := by
      interval_cases j <;> rfl
    rw [writes.request ok quiet, BitVec.getLsbD_or, bit, bne_iff_ne.2 quiet, Bool.and_true]

/-- Settles O30: `sched_eq`, and the parts of `Scheduled`. -/
theorem schedulerWritesOnlyItsStateAndVblankRequest : Obligations.SchedulerWritesOnlyItsStateAndVblankRequest :=
  fun s c => ⟨_, _, sched_eq c s, (sched_scheduled c s).reads, (sched_scheduled c s).quiet,
    fun ok _ hj => sched_iflag_getLsbD c ok hj⟩

/-! ## The next VBLANK entry (R468, R474) -/

/-- The cycles from the beginning of the present mode to the next VBLANK entry. -/
def Gpu.untilVblank (g : Gpu) : Nat :=
  g.mode.sel ((144 - g.scanline) * 456) ((144 - g.scanline) * 456 - 80) ((144 - g.scanline) * 456 - 252)
    ((298 - g.scanline) * 456)

theorem Gpu.untilVblank_le {g : Gpu} (h : g.onFrame) : g.untilVblank ≤ 70224 := by
  rw [Gpu.onFrame_iff] at h
  unfold Gpu.untilVblank
  cases hm : g.mode <;> simp only [hm, Mode.sel, iff_true] at h ⊢ <;> omega

theorem Gpu.duration_le_untilVblank {g : Gpu} (h : g.onFrame) : g.mode.duration ≤ g.untilVblank := by
  rw [Gpu.onFrame_iff] at h
  unfold Gpu.untilVblank
  cases hm : g.mode <;> simp only [hm, reduceCtorEq, Mode.sel, Mode.duration, iff_true, iff_false] at h ⊢ <;> omega

/-- A transition enters VBLANK, or it comes nearer by the mode's duration. -/
theorem State.transition_untilVblank {s : State} (h : s.gpu.onFrame) :
    s.transition.gpu.frameSignals = s.gpu.frameSignals + 1 ∨
      s.transition.gpu.untilVblank + s.gpu.mode.duration = s.gpu.untilVblank := by
  rw [Gpu.onFrame_iff] at h
  unfold Gpu.untilVblank
  cases hm : s.gpu.mode <;> simp only [hm, reduceCtorEq, iff_true, iff_false] at h
  case oamRead =>
    rw [State.transition_of_oamRead hm]
    simp only [State.setMode_gpu, Mode.sel, Mode.duration]
    omega
  case vramRead =>
    rw [State.transition_of_vramRead hm]
    simp only [State.setMode_gpu, Mode.sel, Mode.duration]
    omega
  case hblank =>
    rw [State.transition_of_hblank hm]
    split
    · exact .inl rfl
    · simp only [State.setMode_gpu, State.nextLine_gpu, Mode.sel, Mode.duration]
      omega
  case vblank =>
    rw [State.transition_of_vblank hm]
    split
    · simp only [State.wrapFrame_gpu, State.nextLine_gpu, Mode.sel, Mode.duration]
      omega
    · simp only [State.nextLine_gpu, hm, Mode.sel, Mode.duration]
      omega

/-- With the cycles to the next VBLANK entry given, there has been one. -/
theorem sched_enters_vblank {s : State} {c : Nat} (h : s.gpu.onFrame) (enough : s.gpu.untilVblank ≤ s.gpu.acc + c) :
    s.gpu.frameSignals < (sched c s).gpu.frameSignals := by
  induction hn : s.gpu.acc + c using Nat.strong_induction_on generalizing c s with
  | _ n ih =>
    have positive := s.gpu.mode.duration_ge
    have acc : (s.setAcc 0).transition.gpu.acc = 0 := State.transition_acc _
    have onFrame : (s.setAcc 0).transition.gpu.onFrame := State.transition_onFrame h
    rw [sched_long ((Gpu.duration_le_untilVblank h).trans enough)]
    rcases State.transition_untilVblank (s := s.setAcc 0) h with entered | nearer
    · have kept := (sched_scheduled (s.gpu.acc + c - s.gpu.mode.duration) (s.setAcc 0).transition).signals
      rw [entered] at kept
      exact kept
    · change _ + s.gpu.mode.duration = s.gpu.untilVblank at nearer
      exact ((Scheduled.refl s).setAcc 0).transition.signals.trans_lt (ih _ (by omega) onFrame (by omega) rfl)

end Sys2Proof.Machine

/-! # Interrupts, HALT and faults (60_exceptions.md R450 to R466)

Waiting is the scheduler alone; `Raised` says once what a fault of a step leaves and what caused it; a dispatch is a
push. -/

namespace Sys2Proof.Machine

/-! ## Waiting and waking (R465, R466) -/

/-- A transition reads and writes no cycle count. -/
theorem State.transition_withCycles (s : State) (n : Nat) :
    { s with cycles := n }.transition = { s.transition with cycles := n } := by
  cases h : s.gpu.mode with
  | oamRead | vramRead => simp only [State.transition, h]; rfl
  | hblank | vblank =>
    simp only [State.transition, h, State.nextLine_gpu]
    split <;> rfl

theorem schedLoop_withCycles (fuel : Nat) (s : State) (n : Nat) :
    schedLoop fuel { s with cycles := n } = { schedLoop fuel s with cycles := n } := by
  induction fuel generalizing s with
  | zero => rfl
  | succ fuel ih =>
    by_cases long : s.gpu.mode.duration ≤ s.gpu.acc
    · rw [schedLoop_step long, schedLoop_step (s := { s with cycles := n }) long, ← ih,
        ← State.transition_withCycles]
      rfl
    · have short : s.gpu.acc < s.gpu.mode.duration := Nat.lt_of_not_le long
      rw [schedLoop_stop short, schedLoop_stop (s := { s with cycles := n }) short]

/-- The scheduler reads and writes no cycle count. -/
theorem sched_withCycles (c : Nat) (s : State) (n : Nat) :
    sched c { s with cycles := n } = { sched c s with cycles := n } :=
  schedLoop_withCycles _ (s.setAcc (s.gpu.acc + c)) n

theorem step_waits_eq {s : State} (running : s.fault = none) (halted : s.halted = true) (nothing : s.pending = 0) :
    step s = .next { sched 4 s with cycles := 4 } := by
  rw [step_waits running halted nothing, sched_withCycles]

/-- Settles O6: `step_waits_eq`, and the scheduler writes `gpu` and `mem` only. -/
theorem haltedStepOnlyAdvancesTheScheduler : Obligations.HaltedStepOnlyAdvancesTheScheduler := by
  intro s running halted nothing
  rw [step_waits_eq running halted nothing, sched_eq 4 s]

/-- Settles O8: waking changes `halted` only, so the boundary is that of the state not halted. -/
theorem pendingInterruptWakesTheCore : Obligations.PendingInterruptWakesTheCore := by
  intro s running _ pending
  by_cases ime : s.ime = true
  · rw [step_interrupts running ime pending, step_interrupts (s := { s with halted := false }) running ime pending]
  · rw [step_executes running (fun h => pending h.2) (fun h => ime h.1),
      step_executes (s := { s with halted := false }) running (fun h => pending h.2) (fun h => ime h.1)]
    rfl

theorem run_succ {s t : State} (h : step s = .next t) (n : Nat) :
    Sys2Proof.core.run (n + 1) s = Sys2Proof.core.run n t := by
  simp only [Host.Core.run, show Sys2Proof.core.step s = .next t from h]

/-- While nothing is pending, `n` steps of a halted core are `4 n` cycles of the scheduler. -/
theorem run_waits {s : State} (n : Nat) (running : s.fault = none) (halted : s.halted = true)
    (nothing : ∀ j < n, (sched (4 * j) s).pending = 0) (below : s.gpu.acc < s.gpu.mode.duration) :
    ∃ c, Sys2Proof.core.run n s = .next { sched (4 * n) s with cycles := c } := by
  induction n generalizing s with
  | zero => exact ⟨s.cycles, by rw [Nat.mul_zero, sched_zero below]; rfl⟩
  | succ n ih =>
    have now : s.pending = 0 := by
      have first := nothing 0 (Nat.succ_pos n)
      rwa [Nat.mul_zero, sched_zero below] at first
    have later (j : Nat) :
        sched (4 * j) { sched 4 s with cycles := 4 } = { sched (4 * (j + 1)) s with cycles := 4 } := by
      rw [sched_withCycles, ← sched_add, Nat.mul_succ, Nat.add_comm]
    obtain ⟨c, h⟩ := ih (s := { sched 4 s with cycles := 4 }) (by rw [sched_eq]; exact running)
      (by rw [sched_eq]; exact halted)
      (fun j hj => by rw [later]; exact nothing (j + 1) (Nat.succ_lt_succ hj)) (sched_acc 4 s)
    rw [later] at h
    exact ⟨c, (run_succ (step_waits_eq running halted now) n).trans h⟩

theorem State.pending_getLsbD (s : State) {i : Nat} (hi : i < 5) :
    s.pending.getLsbD i = (s.ie.getLsbD i && s.iflag.getLsbD i) := by
  rw [State.pending, BitVec.getLsbD_extractLsb', Nat.zero_add, BitVec.getLsbD_and, decide_eq_true hi, Bool.true_and]

/-- One frame's cycles set the VBlank request, whatever the point of the frame. -/
theorem sched_frame_pending {s : State} (ok : s.memoryOk = true) (onFrame : s.gpu.onFrame)
    (enabled : s.ie.getLsbD 0 = true) : (sched 70224 s).pending ≠ 0 := by
  have entered := sched_enters_vblank (c := 70224) onFrame
    ((Gpu.untilVblank_le onFrame).trans (Nat.le_add_left _ _))
  have ie : (sched 70224 s).ie = s.ie := (sched_scheduled 70224 s).reads 0xFFFF (by decide)
  have bit : (sched 70224 s).pending.getLsbD 0 = true := by
    rw [State.pending_getLsbD _ (by decide), ie, enabled, sched_iflag_getLsbD _ ok (by decide),
      bne_iff_ne.2 entered.ne']
    simp
  intro nothing
  rw [nothing] at bit
  cases bit

/-- Settles O7: the first count of waiting steps after which something is pending is at most a frame's. -/
theorem haltWithVblankEnabledEndsWithinOneFrame : Obligations.HaltWithVblankEnabledEndsWithinOneFrame := by
  intro s running halted scheduler ok enabled
  obtain ⟨onFrame, below⟩ := s.schedulerOk_iff.1 scheduler
  have ends : ∃ n, (sched (4 * n) s).pending ≠ 0 := ⟨17556, sched_frame_pending ok onFrame enabled⟩
  obtain ⟨c, run⟩ := run_waits (Nat.find ends) running halted (fun j hj => not_not.1 (Nat.find_min ends hj)) below
  refine ⟨Nat.find ends, _, Nat.find_min' ends (sched_frame_pending ok onFrame enabled), run, Nat.find_spec ends, ?_⟩
  rw [sched_eq]
  exact ⟨halted, rfl, rfl⟩

/-! ## What a fault leaves (R450 to R452) -/

/-- What bus writes keep of the control state, the scheduler and the count; a dispatch clears IME, waking clears
`halted`. -/
structure ControlKept (s t : State) : Prop where
  ime : t.ime = true → s.ime = true
  halted : t.halted = true → s.halted = true
  eiDelay : t.eiDelay = s.eiDelay
  gpu : t.gpu = s.gpu
  launch : t.launch = s.launch
  cycles : t.cycles = s.cycles

theorem ControlKept.refl (s : State) : ControlKept s s := ⟨id, id, rfl, rfl, rfl, rfl⟩

theorem ControlKept.trans {s t u : State} (h : ControlKept s t) (k : ControlKept t u) : ControlKept s u :=
  ⟨h.ime ∘ k.ime, h.halted ∘ k.halted, k.eiDelay.trans h.eiDelay, k.gpu.trans h.gpu, k.launch.trans h.launch,
    k.cycles.trans h.cycles⟩

theorem ControlKept.woken (s : State) : ControlKept s { s with halted := false } := ⟨id, nofun, rfl, rfl, rfl, rfl⟩

/-- SP, PC, memory and the latched fault do not count. -/
theorem ControlKept.move {s t : State} (h : ControlKept s t) (p q : Word) (m : Memory) (o : Bool)
    (f : Option FaultRecord) : ControlKept s { t with sp := p, pc := q, mem := m, overlay := o, fault := f } :=
  ⟨h.ime, h.halted, h.eiDelay, h.gpu, h.launch, h.cycles⟩

/-- The causes of the write faults, by the addresses written (20_memory.md R109, R110, R116). -/
inductive WriteFault (p : Params) (writes : List Word) : FaultKind → Prop
  | bankSwitch {a : Word} {v : Byte} (write : a ∈ writes) (rom : a.toNat < 0x8000) :
    WriteFault p writes (.bankSwitch a v)
  | unusableWrite {a : Word} {v : Byte} (write : a ∈ writes) (lo : 0xFEA0 ≤ a.toNat) (hi : a.toNat < 0xFF00)
    (mode : p.unusableWrite = .fault) : WriteFault p writes (.unusableWrite a v)
  | oamDma {v : Byte} (write : 0xFF46 ∈ writes) (mode : p.dmaMode = .fault) : WriteFault p writes (.oamDma v)

/-- The causes of an instruction's faults: its stores, HALT and STOP (45_system.md R421, R422). -/
inductive ExecFault (i : Instr) (s : State) : FaultKind → Prop
  | write {k : FaultKind} (h : WriteFault s.launch.params (i.stores s) k) : ExecFault i s k
  | halt (eq : i = .halt) (mode : s.launch.params.irqMode = .failLoudly) : ExecFault i s (.halt s.pc)
  | haltBug (eq : i = .halt) (mode : s.launch.params.irqMode = .standard) (masked : s.ime = false)
    (pending : s.pending ≠ 0) : ExecFault i s (.haltBug s.pc)
  | stop {n : Byte} (eq : i = .stop n) : ExecFault i s (.stop s.pc)

/-- The causes of a boundary's faults where an interrupt is taken: the mode, or a push of the dispatch (R459). -/
inductive InterruptFault (s : State) : FaultKind → Prop
  | push {k : FaultKind} (h : WriteFault s.launch.params s.pushed k) : InterruptFault s k
  | failLoudly (mode : s.launch.params.irqMode = .failLoudly) : InterruptFault s (.interruptDispatch s.pending)

/-- The fault `f` was raised at the PC of `s`, has one of the causes, and is latched in a state that keeps the control
state of `s`. -/
structure Raised (s : State) (cause : FaultKind → Prop) (f : Fault) : Prop where
  origin : f.record.origin = s.pc
  cause : cause f.record.kind
  latched : f.left.fault = some f.record
  kept : ControlKept s f.left

theorem Raised.imp {s t : State} {P Q : FaultKind → Prop} {f : Fault} (h : Raised t P f) (pc : t.pc = s.pc)
    (kept : ControlKept s t) (cause : ∀ k, P k → Q k) : Raised s Q f :=
  ⟨h.origin.trans pc, cause _ h.cause, h.latched, kept.trans h.kept⟩

theorem raiseFault_raised {s t : State} {k : FaultKind} {cause : FaultKind → Prop} {f : Fault}
    (h : raiseFault k s.pc t = .fault f) (kept : ControlKept s t) (hk : cause k) : Raised s cause f := by
  cases h
  refine ⟨?_, ?_, ?_, ?_⟩ <;> simp only [Fault.record_ofRecord, Fault.left_ofRecord]
  · exact hk
  · exact kept.move ..

/-! ### Bus writes -/

theorem State.write_controlKept {s t u : State} {a : Word} {v : Byte} (kept : ControlKept s t)
    (h : t.write a v = .done u) : ControlKept s u := by
  obtain ⟨m, o, rfl, -⟩ := State.write_eq h
  exact kept.move ..

theorem State.write_fault {s t u : State} {a : Word} {v : Byte} {k : FaultKind} {writes : List Word}
    (kept : ControlKept s t) (ha : a ∈ writes) (h : t.write a v = .raise k u) :
    ControlKept s u ∧ WriteFault s.launch.params writes k := by
  obtain ⟨rfl, cause⟩ := State.write_raise h
  rw [kept.launch] at cause
  refine ⟨kept, ?_⟩
  rcases cause with ⟨rfl, rom⟩ | ⟨rfl, lo, hi, mode⟩ | ⟨rfl, rfl, mode⟩
  · exact .bankSwitch ha rom
  · exact .unusableWrite ha lo hi mode
  · exact .oamDma ha mode

theorem storeOutcome_raised {s : State} {a : Word} {v : Byte} {len : Word} {n : Nat} {r : Regs} {f : Fault}
    (h : storeOutcome s a v len n r = .fault f) : Raised s (WriteFault s.launch.params [a]) f := by
  unfold storeOutcome at h
  split at h
  · cases h
  · next k t e =>
    obtain ⟨kept, cause⟩ := State.write_fault (.refl s) (List.mem_singleton_self a) e
    exact raiseFault_raised h (kept.move ..) cause

theorem pushOutcome_raised {s : State} {v len q : Word} {n : Nat} {f : Fault}
    (h : pushOutcome s v len q n = .fault f) : Raised s (WriteFault s.launch.params s.pushed) f := by
  have moved : ControlKept s { s with sp := s.sp - 1 } := (ControlKept.refl s).move ..
  unfold pushOutcome at h
  split at h
  · next k t e =>
    obtain ⟨kept, cause⟩ := State.write_fault moved List.mem_cons_self e
    exact raiseFault_raised h (kept.move ..) cause
  · next t e =>
    split at h
    · next k u e2 =>
      have first := State.write_controlKept moved e
      obtain ⟨kept, cause⟩ := State.write_fault (s := s) (first.move ..)
        (List.mem_cons_of_mem _ (List.mem_singleton_self _)) e2
      exact raiseFault_raised h (kept.move ..) cause
    · cases h

theorem exec_ldAtA16Sp_raised {a : Word} {s : State} {f : Fault} (h : exec (.ldAtA16Sp a) s = .fault f) :
    Raised s (WriteFault s.launch.params [a, a + 1]) f := by
  have moved : ControlKept s { s with pc := s.pc + 3 } := (ControlKept.refl s).move ..
  rw [exec_ldAtA16Sp] at h
  obtain ⟨k, u, raised, rfl⟩ := conclude_eq_fault.1 h
  have raise : raiseFault k s.pc u = .fault (Fault.ofRecord ⟨k, s.pc⟩ { u with fault := some ⟨k, s.pc⟩ }) := rfl
  rcases Effect.andThen_eq_raise.1 raised with first | ⟨t, first, second⟩
  · obtain ⟨kept, cause⟩ := State.write_fault moved List.mem_cons_self first
    exact raiseFault_raised raise kept cause
  · obtain ⟨kept, cause⟩ := State.write_fault (State.write_controlKept moved first)
      (List.mem_cons_of_mem _ (List.mem_singleton_self _)) second
    exact raiseFault_raised raise kept cause

/-! ### Instructions, boundaries and steps -/

theorem exec_halt_raised {s : State} {f : Fault} (h : exec .halt s = .fault f) : Raised s (ExecFault .halt s) f := by
  have moved : ControlKept s { s with pc := s.pc + 1 } := (ControlKept.refl s).move ..
  cases mode : s.launch.params.irqMode with
  | failLoudly =>
    rw [exec_halt_failLoudly mode] at h
    exact raiseFault_raised h moved (.halt rfl mode)
  | standard =>
    rw [exec_halt_standard mode] at h
    split at h
    · cases h
    · next pending =>
      split at h
      · cases h
      · next masked => exact raiseFault_raised h moved (.haltBug rfl mode (eq_false_of_ne_true masked) pending)

/-- By the shape of the instruction: registers, one store, a push, two stores, HALT or STOP. -/
theorem exec_raised {i : Instr} {s : State} {f : Fault} (h : exec i s = .fault f) : Raised s (ExecFault i s) f := by
  have write {writes : List Word} (stores : i.stores s = writes) (r : Raised s (WriteFault s.launch.params writes) f) :
      Raised s (ExecFault i s) f := r.imp rfl (.refl s) fun k hk => .write (stores ▸ hk)
  cases exec_shape i s with
  | registers r p q b d eq => rw [eq] at h; cases h
  | store a v r eq stores => exact write stores (storeOutcome_raised (eq.symm.trans h))
  | push v q eq stores => exact write stores (pushOutcome_raised (eq.symm.trans h))
  | store16 a eq stores => exact write stores (exec_ldAtA16Sp_raised (eq ▸ h))
  | halt eq => subst eq; exact exec_halt_raised h
  | stop n eq =>
    subst eq
    rw [exec_stop] at h
    exact raiseFault_raised h ((ControlKept.refl s).move ..) (.stop rfl)

/-- The state in which a dispatch pushes PC: the request and IME are cleared (R460). -/
def State.taking (s : State) (i : Nat) : State :=
  { s with ime := false, mem := s.mem.write 0xFF0F (s.iflag &&& ~~~((1 : Byte) <<< i)) }

theorem State.interrupt_failLoudly {s : State} (mode : s.launch.params.irqMode = .failLoudly) :
    s.interrupt = raiseFault (.interruptDispatch s.pending) s.pc s := by
  simp only [State.interrupt, mode]

/-- A dispatch is a push of PC that goes on at the vector. -/
theorem State.interrupt_standard {s : State} (mode : s.launch.params.irqMode = .standard) : s.interrupt =
    pushOutcome (s.taking (irqIndex s.pending)) s.pc 0 (irqVector (irqIndex s.pending)) 20 := by
  have still (t : State) : { t with pc := t.pc + BitVec.ofNat 16 0 } = t := by
    rw [show t.pc + BitVec.ofNat 16 0 = t.pc from BitVec.add_zero _]
  have push := push_outcome (s.taking (irqIndex s.pending)) s.pc 0 20
    (fun t => .done { t with pc := irqVector (irqIndex s.pending) }) _ fun _ => rfl
  rw [still] at push
  simp only [State.interrupt, mode]
  exact push

theorem State.interrupt_raised {s : State} {f : Fault} (h : s.interrupt = .fault f) : Raised s (InterruptFault s) f := by
  cases mode : s.launch.params.irqMode with
  | failLoudly =>
    rw [State.interrupt_failLoudly mode] at h
    exact raiseFault_raised h (.refl s) (.failLoudly mode)
  | standard =>
    rw [State.interrupt_standard mode] at h
    exact (pushOutcome_raised h).imp rfl ⟨nofun, id, rfl, rfl, rfl, rfl⟩ fun k push => .push push

theorem Instr.stores_woken (i : Instr) (s : State) : i.stores { s with halted := false } = i.stores s := rfl

/-- A step that raises a fault does so where it takes an interrupt, or in the instruction at PC. -/
theorem step_raised {s : State} {f : Fault} (running : s.fault = none) (h : step s = .fault f) :
    (s.ime = true ∧ s.pending ≠ 0) ∧ Raised s (InterruptFault s) f ∨
      ¬(s.ime = true ∧ s.pending ≠ 0) ∧ Raised s (ExecFault s.fetch s) f := by
  have woken := ControlKept.woken s
  by_cases waits : s.halted = true ∧ s.pending = 0
  · rw [step_waits running waits.1 waits.2] at h
    cases h
  by_cases taken : s.ime = true ∧ s.pending ≠ 0
  · rw [step_interrupts running taken.1 taken.2, mapNext_eq_fault] at h
    refine .inl ⟨taken, (State.interrupt_raised h).imp rfl woken ?_⟩
    rintro k (push | mode)
    · exact .push push
    · exact .failLoudly mode
  · rw [step_executes running waits taken, mapNext_eq_fault] at h
    refine .inr ⟨taken, (exec_raised h).imp rfl woken ?_⟩
    rintro k (write | ⟨eq, mode⟩ | ⟨eq, mode, masked, pending⟩ | eq)
    · exact .write (Instr.stores_woken s.fetch s ▸ write)
    · exact .halt eq mode
    · exact .haltBug eq mode masked pending
    · exact .stop eq

/-- Settles O10: the causes of `step_raised`. -/
theorem eachFaultHasItsCause : Obligations.EachFaultHasItsCause := by
  intro s f running h writes
  rcases step_raised running h with ⟨taken, raised⟩ | ⟨taken, raised⟩
  · have pushes : writes = s.pushed := if_pos taken
    obtain ⟨origin, cause, -, -⟩ := raised
    refine ⟨origin, ?_⟩
    generalize f.record.kind = k at cause
    rw [pushes]
    rcases cause with (⟨write, rom⟩ | ⟨write, lo, hi, mode⟩ | ⟨write, mode⟩) | mode
    · exact ⟨write, rom⟩
    · exact ⟨write, lo, hi, mode⟩
    · exact ⟨write, mode⟩
    · exact ⟨mode, taken.1, rfl, taken.2⟩
  · have stores : writes = s.fetch.stores s := if_neg taken
    obtain ⟨origin, cause, -, -⟩ := raised
    refine ⟨origin, ?_⟩
    generalize f.record.kind = k at cause
    rw [stores]
    rcases cause with (⟨write, rom⟩ | ⟨write, lo, hi, mode⟩ | ⟨write, mode⟩) | ⟨eq, mode⟩ |
      ⟨eq, mode, masked, pending⟩ | eq
    · exact ⟨write, rom⟩
    · exact ⟨write, lo, hi, mode⟩
    · exact ⟨write, mode⟩
    · exact ⟨rfl, eq, mode⟩
    · exact ⟨rfl, eq, mode, masked, pending⟩
    · exact ⟨rfl, _, eq⟩

theorem step_left_of_latched {f : Fault} (h : f.left.fault = some f.record) : step f.left = .fault f := by
  rw [step_latched h, Fault.ofRecord_record_left]

/-- Settles O9: a latched fault is returned as it is; a raised one is latched in a state that keeps the control state. -/
theorem raisedFaultIsLatchedAndSticky : Obligations.RaisedFaultIsLatchedAndSticky := by
  intro s f h
  cases running : s.fault with
  | some r =>
    rw [step_latched running] at h
    cases h
    rw [Fault.left_ofRecord, Fault.record_ofRecord]
    exact ⟨running, rfl, rfl, rfl, step_latched running, fun _ => rfl⟩
  | none =>
    obtain ⟨latched, kept⟩ : f.left.fault = some f.record ∧ ControlKept s f.left := by
      rcases step_raised running h with ⟨-, raised⟩ | ⟨-, raised⟩
      · exact ⟨raised.latched, raised.kept⟩
      · exact ⟨raised.latched, raised.kept⟩
    exact ⟨latched, kept.gpu, kept.eiDelay, kept.cycles, step_left_of_latched latched, fun n => absurd rfl n⟩

/-! ## The control bits (R461, 10_state.md R40) -/

theorem State.eiOk_iff (s : State) : s.eiOk = true ↔ (s.ime = true → s.eiDelay = 0) := by
  rw [State.eiOk, Bool.or_eq_true, Bool.not_eq_true', beq_iff_eq, ← Bool.not_eq_true, imp_iff_not_or]

theorem State.haltOk_iff (s : State) :
    s.haltOk = true ↔ (s.launch.params.irqMode = .failLoudly → s.halted = false) := by
  rw [State.haltOk, Bool.not_eq_true', Bool.and_eq_false_imp, beq_iff_eq]

/-- The two invariants of the control bits together. -/
structure State.ControlOk (s : State) : Prop where
  ei : s.ime = true → s.eiDelay = 0
  halt : s.launch.params.irqMode = .failLoudly → s.halted = false

theorem State.controlOk_iff (s : State) : s.eiOk = true ∧ s.haltOk = true ↔ s.ControlOk := by
  rw [State.eiOk_iff, State.haltOk_iff]
  exact ⟨fun h => ⟨h.1, h.2⟩, fun h => ⟨h.ei, h.halt⟩⟩

theorem ControlKept.controlOk {s t : State} (h : ControlKept s t) (ok : s.ControlOk) : t.ControlOk where
  ei ime := h.eiDelay.trans (ok.ei (h.ime ime))
  halt mode := by
    have awake := ok.halt (h.launch ▸ mode)
    cases ht : t.halted with
    | false => rfl
    | true => rw [h.halted ht] at awake; cases awake

theorem sched_controlOk {s : State} (c : Nat) (ok : s.ControlOk) : (sched c s).ControlOk := by
  rw [sched_eq]
  exact ⟨ok.ei, ok.halt⟩

/-- The countdown sets IME only in becoming 0. -/
theorem State.countdown_controlOk {s : State} (ok : s.ControlOk) : s.countdown.ControlOk := by
  refine ⟨?_, fun mode => ?_⟩
  · unfold State.countdown
    split
    · exact ok.ei
    · exact fun _ => rfl
    · next two => exact fun ime => absurd (two.symm.trans (ok.ei ime)) (by decide)
  · rw [State.countdown_launch] at mode
    rw [State.countdown_halted, ok.halt mode]

/-- EI starts the countdown with IME 0 only, DI and RETI end it, and HALT completes in `Standard` mode only. -/
theorem exec_next_controlOk {i : Instr} {s t : State} (ok : s.ControlOk) (h : exec i s = .next t) : t.ControlOk := by
  obtain ⟨-, -, -, control, halted, -⟩ := controlStateHasItsWriters i s t h
  have launch : t.launch = s.launch := (show Ends (.next t) (Keeps s) from h ▸ exec_keeps i s).launch
  refine ⟨?_, fun mode => ?_⟩
  · by_cases ei : i = .ei
    · subst ei
      rw [exec_ei] at h
      cases h
      intro ime
      simp [show s.ime = true from ime, ok.ei ime]
    by_cases di : i = .di
    · subst di
      cases h
      exact nofun
    by_cases reti : i = .reti
    · subst reti
      rw [exec_reti] at h
      cases h
      exact fun _ => rfl
    · rw [(control ei di reti).1, (control ei di reti).2]
      exact ok.ei
  · rw [launch] at mode
    by_cases halt : i = .halt
    · subst halt
      rw [exec_halt_failLoudly mode] at h
      cases h
    · rw [halted halt, ok.halt mode]

theorem exec_controlOk {i : Instr} {s : State} (ok : s.ControlOk) : Ends (exec i s) State.ControlOk := by
  cases h : exec i s with
  | next t => exact exec_next_controlOk ok h
  | fault f => exact (exec_raised h).kept.controlOk ok
  | refused r => trivial

theorem pushOutcome_controlOk {s : State} {v len q : Word} {n : Nat} (ok : s.ControlOk) :
    Ends (pushOutcome s v len q n) State.ControlOk := by
  cases h : pushOutcome s v len q n with
  | next t =>
    obtain ⟨u, w, hu, hw, rfl⟩ := pushOutcome_eq_next h
    have first : ControlKept s u := State.write_controlKept ((ControlKept.refl s).move ..) hu
    have second : ControlKept s w := State.write_controlKept (first.move ..) hw
    obtain ⟨ei, halt⟩ := second.controlOk ok
    exact ⟨ei, halt⟩
  | fault f => exact (pushOutcome_raised h).kept.controlOk ok
  | refused r => trivial

theorem State.taking_controlOk {s : State} (ok : s.ControlOk) (i : Nat) : (s.taking i).ControlOk :=
  ⟨(nomatch ·), ok.halt⟩

theorem State.interrupt_controlOk {s : State} (ok : s.ControlOk) : Ends s.interrupt State.ControlOk := by
  cases mode : s.launch.params.irqMode with
  | failLoudly =>
    rw [State.interrupt_failLoudly mode]
    exact ends_ofRecord.2 ⟨ok.ei, ok.halt⟩
  | standard =>
    rw [State.interrupt_standard mode]
    exact pushOutcome_controlOk (State.taking_controlOk ok _)

/-- Settles O17, by the cases of the step. -/
theorem controlBitsStayConsistent : Obligations.ControlBitsStayConsistent := by
  intro s ei halt
  have ok : s.ControlOk := s.controlOk_iff.1 ⟨ei, halt⟩
  have woken := (ControlKept.woken s).controlOk ok
  simp only [State.controlOk_iff]
  refine step_cases (P := fun o => Ends o State.ControlOk) (fun r _ => ?latched) (fun _ _ _ => ?waits)
    (fun _ _ _ => ?interrupts) (fun _ _ _ => ?executes)
  case latched => exact ends_ofRecord.2 ok
  case waits => exact sched_controlOk 4 ⟨ok.ei, ok.halt⟩
  case interrupts =>
    exact mapNext_ends (State.interrupt_controlOk woken) (fun t => sched_controlOk t.cycles) fun _ => id
  case executes =>
    exact mapNext_ends (exec_controlOk woken) (fun t h => sched_controlOk t.cycles (State.countdown_controlOk h))
      fun _ => id

/-! ## Taking an interrupt (R456 to R461) -/

/-- Settles O11: the boundary of the woken state raises the fault. -/
theorem failLoudlyBoundaryRaisesInterruptDispatch : Obligations.FailLoudlyBoundaryRaisesInterruptDispatch := by
  intro s running ime pending mode
  rw [step_interrupts running ime pending, State.interrupt_failLoudly (s := { s with halted := false }) mode]
  rfl

theorem irqIndex_eq {p : BitVec 5} {i : Nat} (hi : i < 5) (requested : p.getLsbD i = true)
    (lower : ∀ j < i, p.getLsbD j = false) : irqIndex p = i := by
  have unset {j : Nat} (hj : j < i) : ¬p.getLsbD j = true := by
    rw [lower j hj]
    decide
  unfold irqIndex
  interval_cases i
  · rw [if_pos requested]
  · rw [if_neg (unset (j := 0) (by decide)), if_pos requested]
  · rw [if_neg (unset (j := 0) (by decide)), if_neg (unset (j := 1) (by decide)), if_pos requested]
  · rw [if_neg (unset (j := 0) (by decide)), if_neg (unset (j := 1) (by decide)), if_neg (unset (j := 2) (by decide)),
      if_pos requested]
  · rw [if_neg (unset (j := 0) (by decide)), if_neg (unset (j := 1) (by decide)), if_neg (unset (j := 2) (by decide)),
      if_neg (unset (j := 3) (by decide))]

/-- The count that a completing push returns is the one given. -/
theorem mapNext_sched_pushOutcome {s : State} {v len q : Word} {n : Nat} :
    mapNext (fun t => sched t.cycles t) (pushOutcome s v len q n) = mapNext (sched n) (pushOutcome s v len q n) := by
  cases h : pushOutcome s v len q n with
  | next t =>
    obtain ⟨u, w, -, -, rfl⟩ := pushOutcome_eq_next h
    rfl
  | fault f => rfl
  | refused r => rfl

/-- In `Standard` mode the step that takes interrupt `i` is its dispatch and then 20 cycles of the scheduler. -/
theorem step_dispatches {s : State} {i : Nat} (running : s.fault = none) (ime : s.ime = true)
    (mode : s.launch.params.irqMode = .standard) (hi : i < 5) (requested : s.pending.getLsbD i = true)
    (lower : ∀ j < i, s.pending.getLsbD j = false) : step s =
      mapNext (sched 20) (pushOutcome (State.taking { s with halted := false } i) s.pc 0 (irqVector i) 20) := by
  have pending : s.pending ≠ 0 := by
    intro nothing
    rw [nothing] at requested
    exact absurd (requested.symm.trans BitVec.getLsbD_zero) (by decide)
  rw [step_interrupts running ime pending, State.interrupt_standard (s := { s with halted := false }) mode,
    mapNext_sched_pushOutcome,
    show irqIndex (State.pending { s with halted := false }) = i from irqIndex_eq hi requested lower]

/-- A plain byte other than IF reads the same after the scheduler. -/
theorem sched_read_plain (c : Nat) (s : State) {a : Word} (plain : isPlain a = true) (notIf : a ≠ 0xFF0F) :
    (sched c s).read a = s.read a := by
  obtain ⟨lo, gap, -, stat, ly, -⟩ := (isPlain_iff a).1 plain
  rw [State.read_storage lo gap stat ly, State.read_storage lo gap stat ly]
  refine (sched_scheduled c s).reads _ fun e => notIf ?_
  exact eq_of_home (a := 0xFF0F) e (by decide)

theorem State.taking_memoryOk {s : State} (ok : s.memoryOk = true) (i : Nat) : (s.taking i).memoryOk = true :=
  State.memoryOk_write ok rfl

/-- IF in a dispatch, bit by bit: the request taken is cleared. -/
theorem State.taking_iflag_getLsbD {s : State} (ok : s.memoryOk = true) {i j : Nat} (hj : j < 8) :
    (s.taking i).iflag.getLsbD j = (s.iflag.getLsbD j && j != i) := by
  have cleared : (s.taking i).iflag = s.iflag &&& ~~~((1 : Byte) <<< i) :=
    Memory.read_write_same (State.memoryOk_wf ok)
  rw [cleared, BitVec.getLsbD_and, BitVec.getLsbD_not, show (1 : Byte) <<< i = BitVec.twoPow 8 i from rfl,
    BitVec.getLsbD_twoPow]
  by_cases same : i = j
  · subst same
    simp [hj]
  · simp [hj, same, Ne.symm same]

theorem State.memoryOk_setByte {s : State} {a : Word} {v : Byte} (ok : s.memoryOk = true) (plain : isPlain a = true) :
    (s.setByte a v).memoryOk = true :=
  State.write_memoryOk (State.write_plain plain) ok

/-- A store elsewhere leaves IF. -/
theorem State.iflag_setByte {s : State} {a : Word} {v : Byte} (h : a ≠ 0xFF0F) : (s.setByte a v).iflag = s.iflag :=
  State.setByte_byte_other fun e => h (eq_of_home e.symm (by decide))

/-! ### The stack of a dispatch: in ROM, and in plain storage -/

theorem pushOutcome_firstInRom {s : State} (rom : (s.sp - 1).toNat < 0x8000) (v len q : Word) (n : Nat) :
    pushOutcome s v len q n =
      raiseFault (.bankSwitch (s.sp - 1) (hiByte v)) s.pc { s with sp := s.sp - 1, pc := s.pc + len } := by
  rw [pushOutcome, State.write_rom rom]

theorem pushOutcome_secondInRom {s : State} (sp : s.sp = 0x8001) (v len q : Word) (n : Nat) :
    pushOutcome s v len q n = raiseFault (.bankSwitch 0x7FFF (loByte v)) s.pc
      { s.setByte 0x8000 (hiByte v) with sp := 0x7FFF, pc := s.pc + len } := by
  have first : s.sp - 1 = 0x8000 := by rw [sp]; rfl
  have second : s.sp - 2 = 0x7FFF := by rw [sp]; rfl
  rw [pushOutcome, first, second, State.write_ram (by decide) (by decide)]
  dsimp only
  rw [State.write_rom (by decide)]
  rfl

/-- The state after a push of `v` on plain storage that goes on at `q` (`pushOutcome_plain`). -/
def State.afterPush (s : State) (v q : Word) (n : Nat) : State :=
  { (s.setByte (s.sp - 1) (hiByte v)).setByte (s.sp - 2) (loByte v) with sp := s.sp - 2, pc := q, cycles := n }

theorem State.afterPush_memoryOk {s : State} {v q : Word} {n : Nat} (ok : s.memoryOk = true)
    (hi : isPlain (s.sp - 1) = true) (lo : isPlain (s.sp - 2) = true) : (s.afterPush v q n).memoryOk = true :=
  State.memoryOk_setByte (State.memoryOk_setByte ok hi) lo

theorem State.afterPush_iflag {s : State} {v q : Word} {n : Nat} (hi : s.sp - 1 ≠ 0xFF0F) (lo : s.sp - 2 ≠ 0xFF0F) :
    (s.afterPush v q n).iflag = s.iflag :=
  (State.iflag_setByte lo).trans (State.iflag_setByte hi)

theorem State.afterPush_read {s : State} {v q : Word} {n : Nat} (ok : s.memoryOk = true)
    (hi : isPlain (s.sp - 1) = true) (lo : isPlain (s.sp - 2) = true) :
    (s.afterPush v q n).read (s.sp - 2) = loByte v ∧ (s.afterPush v q n).read (s.sp - 1) = hiByte v := by
  have next : s.sp - 1 = s.sp - 2 + 1 := by bv_omega
  unfold State.afterPush
  rw [next] at hi ⊢
  exact State.read_setByte_setByte ok hi lo (hiByte v) (loByte v)

@[simp] theorem sched_regs (c : Nat) (s : State) : (sched c s).regs = s.regs := by rw [sched_eq]
@[simp] theorem sched_sp (c : Nat) (s : State) : (sched c s).sp = s.sp := by rw [sched_eq]
@[simp] theorem sched_pc (c : Nat) (s : State) : (sched c s).pc = s.pc := by rw [sched_eq]
@[simp] theorem sched_halted (c : Nat) (s : State) : (sched c s).halted = s.halted := by rw [sched_eq]
@[simp] theorem sched_fault (c : Nat) (s : State) : (sched c s).fault = s.fault := by rw [sched_eq]
@[simp] theorem sched_cycles (c : Nat) (s : State) : (sched c s).cycles = s.cycles := by rw [sched_eq]

/-- Settles O12: `step_dispatches`, and the push where both bytes are plain, where the second is in ROM, and where the
first is. -/
theorem standardBoundaryDispatchesTheLowestInterrupt : Obligations.StandardBoundaryDispatchesTheLowestInterrupt := by
  intro s i running ime mode hi requested lower taken
  have dispatch : step s = mapNext (sched 20) (pushOutcome taken s.pc 0 (0x0040 + BitVec.ofNat 16 (8 * i)) 20) :=
    step_dispatches running ime mode hi requested lower
  have still : taken.pc + 0 = taken.pc := BitVec.add_zero _
  refine ⟨?outcome, fun ok plainHi plainLo notIfHi notIfLo => ?plain, fun sp => ?secondInRom, fun rom => ?firstInRom⟩
  case outcome =>
    rw [dispatch]
    cases pushOutcome taken s.pc 0 (0x0040 + BitVec.ofNat 16 (8 * i)) 20 <;> rfl
  case plain =>
    have ok' : taken.memoryOk = true := State.taking_memoryOk ok i
    rw [dispatch, pushOutcome_plain (s := taken) plainHi plainLo]
    refine ⟨sched 20 (taken.afterPush s.pc (0x0040 + BitVec.ofNat 16 (8 * i)) 20), rfl, sched_pc .., sched_sp ..,
      sched_ime .., sched_halted .., sched_eiDelay .., sched_regs .., sched_cycles .., (sched_fault ..).trans running,
      sched_gpu_congr (s := s) (t := taken.afterPush ..) rfl rfl 20, ?_, ?_, fun j hj => ?_⟩
    · rw [sched_read_plain _ _ plainHi notIfHi]
      exact (State.afterPush_read ok' plainHi plainLo).2
    · rw [sched_read_plain _ _ plainLo notIfLo]
      exact (State.afterPush_read ok' plainHi plainLo).1
    · rw [sched_iflag_getLsbD _ (State.afterPush_memoryOk ok' plainHi plainLo) hj,
        State.afterPush_iflag (s := taken) notIfHi notIfLo]
      exact congrArg (· || _) (State.taking_iflag_getLsbD ok hj)
  case secondInRom =>
    rw [dispatch, pushOutcome_secondInRom (s := taken) sp, still]
    rfl
  case firstInRom =>
    rw [dispatch, pushOutcome_firstInRom (s := taken) rom, still]
    rfl

end Sys2Proof.Machine

/-! # Reset and construction (70_reset_and_hazards.md R520 to R529)

`State.construct` is said once, as what it accepts, what it refuses, and the `State.build` it answers. The images and
the cells of `P_INIT` are then read by the laws of `Memory.ofBytes` and `Memory.ofCells`, on the bus by those of
`State.read`. -/

namespace Sys2Proof.Machine

/-! ## What construction accepts, and what it gives (R520, R529) -/

/-- What construction keeps of the images and the parameters (R520). -/
def LaunchInputs.launch (x : LaunchInputs) : Launch where
  cart := Memory.ofBytes 0 (x.cart.take 0x8000)
  boot := Memory.ofBytes 0 x.boot
  params := x.params

/-- `P_INIT` with its cells as canonical memory (R525; log 23). -/
def LaunchInputs.canonicalInit (x : LaunchInputs) : Init := { x.init with mem := Memory.ofCells x.init.mem }

/-- The inputs that R529 accepts. -/
def LaunchInputs.Accepted (x : LaunchInputs) : Prop := 0x8000 ≤ x.cart.length ∧ x.boot.length = 256

theorem State.construct_of_accepted {x : LaunchInputs} (h : x.Accepted) :
    State.construct x = .ok (State.build x.launch x.mode x.canonicalInit) := by
  obtain ⟨cart, boot⟩ := h
  rw [State.construct, if_neg (Nat.not_lt.2 cart), if_neg (not_not.2 boot)]
  rfl

theorem State.construct_of_not_accepted {x : LaunchInputs} (h : ¬ x.Accepted) :
    ∃ e, State.construct x = .error e := by
  by_cases short : x.cart.length < 0x8000
  · exact ⟨_, if_pos short⟩
  · have size : x.boot.length ≠ 256 := fun boot => h ⟨Nat.not_lt.1 short, boot⟩
    exact ⟨_, (if_neg short).trans (if_pos size)⟩

theorem State.construct_eq_ok_iff {x : LaunchInputs} {s : State} :
    State.construct x = .ok s ↔ x.Accepted ∧ s = State.build x.launch x.mode x.canonicalInit := by
  by_cases h : x.Accepted
  · simp only [State.construct_of_accepted h, Except.ok.injEq, h, true_and, eq_comm]
  · obtain ⟨e, refused⟩ := State.construct_of_not_accepted h
    simp only [refused, reduceCtorEq, h, false_and]

theorem State.construct_error_iff {x : LaunchInputs} : (∃ e, State.construct x = .error e) ↔ ¬ x.Accepted := by
  refine ⟨fun ⟨e, refused⟩ h => ?_, State.construct_of_not_accepted⟩
  rw [State.construct_of_accepted h] at refused
  cases refused

/-! ## The images (R528, 20_memory.md R104, R105) -/

theorem LaunchInputs.launch_boot_read (x : LaunchInputs) (k : Nat) : x.launch.boot.read k = x.boot.getD k 0 := by
  rw [LaunchInputs.launch, Memory.read_ofBytes, if_pos (Nat.zero_le k)]
  rfl

theorem LaunchInputs.launch_cart_read (x : LaunchInputs) {k : Nat} (h : k < 0x8000) :
    x.launch.cart.read k = x.cart.getD k 0 := by
  rw [LaunchInputs.launch, Memory.read_ofBytes, if_pos (Nat.zero_le k), Nat.sub_zero, List.getD_eq_getElem?_getD,
    List.getElem?_take_of_lt h, ← List.getD_eq_getElem?_getD]
  rfl

theorem State.build_overlay_iff (l : Launch) (m : LaunchMode) (i : Init) :
    (State.build l m i).overlay = true ↔ m = .bootOverlay := by
  cases m <;> simp [State.build]

/-- At reset an address below 0x8000 reads the boot image where the overlay covers it, else the cartridge. -/
theorem State.build_read_low (l : Launch) (m : LaunchMode) (i : Init) {a : Word} (h : a.toNat < 0x8000) :
    (State.build l m i).read a =
      if m = .bootOverlay ∧ a.toNat < 0x100 then l.boot.read a.toNat else l.cart.read a.toNat := by
  split
  · next covered => exact State.read_boot covered.2 ((State.build_overlay_iff l m i).2 covered.1)
  · next uncovered =>
    refine State.read_rom h ?_
    rw [← Bool.not_eq_true, State.build_overlay_iff]
    by_cases high : 0x100 ≤ a.toNat
    · exact .inl high
    · exact .inr fun boot => uncovered ⟨boot, Nat.lt_of_not_le high⟩

/-- Settles O21: construction answers exactly for accepted inputs, and the state built reads the two images. -/
theorem constructionChecksAndMapsTheImages : Obligations.ConstructionChecksAndMapsTheImages := by
  intro x
  refine ⟨?refusals, fun s built a low => ?reads⟩
  case refusals =>
    rw [State.construct_error_iff, LaunchInputs.Accepted, Classical.not_and_iff_not_or_not, Nat.not_le]
  case reads =>
    obtain ⟨-, rfl⟩ := State.construct_eq_ok_iff.1 built
    rw [State.build_read_low _ _ _ low, x.launch_boot_read, x.launch_cart_read low]

/-! ## The invariants (10_state.md R33, R46) -/

/-- F at reset has a clear low nibble: masked with `BootOverlay` (R521), 0xB0 with `PostBoot` (R522). -/
theorem State.build_lowNibbleClear (l : Launch) (m : LaunchMode) (i : Init) :
    (State.build l m i).lowNibbleClear = true := by
  rw [State.lowNibbleClear_iff]
  cases m with
  | bootOverlay => exact storedF_low i.regs.f
  | postBoot => exact (by decide : Regs.postBoot.f &&& 0x0F = 0)

/-- The reset state meets the invariants as soon as its memory does. -/
theorem State.build_inv {l : Launch} {m : LaunchMode} {i : Init} (memory : (State.build l m i).memoryOk = true) :
    (State.build l m i).inv = true := by
  have scheduler : (State.build l m i).schedulerOk = true := rfl
  have ei : (State.build l m i).eiOk = true := rfl
  have halt : (State.build l m i).haltOk = true := by
    rw [State.haltOk, show (State.build l m i).halted = false from rfl, Bool.and_false, Bool.not_false]
  simp only [State.inv, State.build_lowNibbleClear, memory, scheduler, ei, halt, Bool.and_self]

theorem State.build_memoryOk (x : LaunchInputs) (m : LaunchMode) :
    (State.build x.launch m x.canonicalInit).memoryOk = true :=
  (State.memoryOk_iff _).2
    ⟨Memory.ofCells_wf _, Memory.ofCells_storage _, Memory.ofBytes_wf 0 _, Memory.ofBytes_wf 0 _⟩

/-- Settles O19: the default launch has empty memories, and construction makes canonical ones. -/
theorem resetMeetsTheInvariants : Obligations.ResetMeetsTheInvariants := by
  refine ⟨State.build_inv rfl, fun x s built => ?_⟩
  obtain ⟨-, rfl⟩ := State.construct_eq_ok_iff.1 built
  exact State.build_inv (State.build_memoryOk x x.mode)

/-! ## The reset state (R521 to R526) -/

theorem isStorage_iff (k : Nat) : isStorage k = true ↔
    (0x8000 ≤ k ∧ k < 0xE000) ∨ (0xFE00 ≤ k ∧ k < 0xFEA0) ∨ (0xFF00 ≤ k ∧ k < 0x10000) := by
  simp only [isStorage, Bool.or_eq_true, Bool.and_eq_true, decide_eq_true_eq, or_assoc]

/-- An address that is itself the key of a stored byte reads that byte, LY and STAT apart. -/
theorem State.read_of_isStorage {s : State} {a : Word} (h : isStorage a.toNat = true) (stat : a ≠ 0xFF41)
    (ly : a ≠ 0xFF44) : s.read a = s.mem.read a.toNat := by
  rw [isStorage_iff] at h
  rw [State.read_storage (by omega) (by omega) stat ly, State.byte, home_of_not_echo (by omega)]

/-- Of the cells of `P_INIT` for one storage address the first counts; an address without one holds 0x00 (log 23). -/
theorem Memory.read_ofCells (cells : List Host.Cell) {k : Nat} (h : isStorage k = true) :
    (Memory.ofCells cells).read k = (cells.lookup k).getD 0 := by
  induction cells with
  | nil => rfl
  | cons cell cells ih =>
    obtain ⟨j, v⟩ := cell
    by_cases same : k = j
    · subst same
      rw [Memory.ofCells, if_pos h, Memory.read_write_same (Memory.ofCells_wf cells), List.lookup_cons_self]
      rfl
    · have rest : (Memory.ofCells ((j, v) :: cells)).read k = (Memory.ofCells cells).read k := by
        rw [Memory.ofCells]
        split
        · exact Memory.read_write_other same
        · rfl
      rw [rest, ih, List.lookup_cons, beq_false_of_ne same]

/-- Settles O20: the fields are those of `State.build`; the bytes are read by the laws of the bus and of STAT. -/
theorem resetStateIsAsTheRulesGive : Obligations.ResetStateIsAsTheRulesGive := by
  refine ⟨fun l x m => ?state, fun y s built => ?construction⟩
  case construction =>
    obtain ⟨-, rfl⟩ := State.construct_eq_ok_iff.1 built
    exact ⟨y.launch, y.canonicalInit, rfl, rfl, rfl, rfl, fun k => Memory.read_ofCells y.init.mem⟩
  case state =>
    intro s
    refine ⟨?bootOverlay, ?postBoot, rfl, rfl, rfl, rfl, rfl, rfl, rfl, rfl, fun a => State.read_of_isStorage, rfl,
      s.stat_mode, ?coincidence, s.stat_stored⟩
    case bootOverlay =>
      rintro rfl
      exact ⟨rfl, rfl, rfl, rfl, rfl, rfl, rfl, rfl, storedF_eq x.regs.f, rfl, rfl⟩
    case postBoot =>
      rintro rfl
      exact ⟨rfl, rfl, rfl, rfl⟩
    case coincidence =>
      have lineZero : s.gpu.scanline = (s.mem.read 0xFF45).toNat ↔ s.mem.read 0xFF45 = 0 :=
        eq_comm.trans (BitVec.toNat_inj (y := 0#8))
      exact s.stat_coincidence.trans lineZero

end Sys2Proof.Machine
